-- ==== Sys2Proof/Word.lean ====
section
/-! DEFINITION. The two word types of the machine: the 8-bit byte every bus access moves (20_memory R92)
and the 16-bit word of `SP`, `PC`, the register pairs and the addresses (10_state R10, R11). -/

namespace Sys2Proof

/-- One byte: a register, a memory byte, an immediate `n8`, `a8` or `e8` (00_scope section 4). -/
abbrev Byte := BitVec 8

/-- One 16-bit word: `SP`, `PC`, a pair, an address, an immediate `n16` or `a16` (00_scope section 4). -/
abbrev Word := BitVec 16

end Sys2Proof
end

