-- ==== Sys2Proof/Syntax.lean ====
section
/-! DEFINITION. The instructions: `Instr` has one constructor per row of opcode_table.json, named by the row's
mnemonic and operands (`m` before an operand means the memory byte at that address: `ld_mHL_B` is `LD (HL),B`,
`ld_A_mHLi` is `LD A,(HL+)`, `ld_A_mHLd` is `LD A,(HL-)`), with the operand types of 30_encoding R103 to R109
and, after it, the operand-indexed names of the regular families of rows (R101, R102). -/

namespace Sys2Proof

/-- The registers a 3-bit operand code can name (30_encoding R104; code 6 is no register). -/
inductive Reg8 where
  | b | c | d | e | h | l | a
  deriving DecidableEq, Repr

/-- `x[code]` of 30_encoding R104: a register, or the memory byte at `HL` (code 6). -/
inductive Operand8 where
  | reg (r : Reg8)
  | mHL
  deriving DecidableEq, Repr

/-- `rr[p]` of 30_encoding R105. -/
inductive Reg16 where
  | bc | de | hl | sp
  deriving DecidableEq, Repr

/-- `rs[p]` of 30_encoding R105, the pairs of `PUSH` and `POP`. -/
inductive StackReg where
  | bc | de | hl | af
  deriving DecidableEq, Repr

/-- The condition codes (30_encoding R106). -/
inductive Cond where
  | nz | z | nc | c
  deriving DecidableEq, Repr

/-- The ALU operations by their code `y` (30_encoding R119). -/
inductive AluOp where
  | add | adc | sub | sbc | and | xor | or | cp
  deriving DecidableEq, Repr

/-- The rotate and shift operations by their code `y` (30_encoding R102, 43_rotates_bits R234). -/
inductive RotOp where
  | rlc | rrc | rl | rr | sla | sra | swap | srl
  deriving DecidableEq, Repr

/-- The instructions, one constructor per row of opcode_table.json: the two irregular
quadrants first, since their rows carry operands (Lean's compiler wants those among the first 244 constructors), then the
regular ones and the CB page. `n` is an `n8` or
`n16` immediate, `a` an `a8` or `a16` address, `e` the byte of an `e8` offset, `pad` the byte `STOP` ignores. -/
inductive Instr where
  -- quadrant x = 0 (R118)
  | nop
  | ld_BC_n16 (n : Word)
  | ld_mBC_A
  | inc_BC
  | inc_B
  | dec_B
  | ld_B_n8 (n : Byte)
  | rlca
  | ld_ma16_SP (a : Word)
  | add_HL_BC
  | ld_A_mBC
  | dec_BC
  | inc_C
  | dec_C
  | ld_C_n8 (n : Byte)
  | rrca
  | stop (pad : Byte)
  | ld_DE_n16 (n : Word)
  | ld_mDE_A
  | inc_DE
  | inc_D
  | dec_D
  | ld_D_n8 (n : Byte)
  | rla
  | jr_e8 (e : Byte)
  | add_HL_DE
  | ld_A_mDE
  | dec_DE
  | inc_E
  | dec_E
  | ld_E_n8 (n : Byte)
  | rra
  | jr_NZ_e8 (e : Byte)
  | ld_HL_n16 (n : Word)
  | ld_mHLi_A
  | inc_HL
  | inc_H
  | dec_H
  | ld_H_n8 (n : Byte)
  | daa
  | jr_Z_e8 (e : Byte)
  | add_HL_HL
  | ld_A_mHLi
  | dec_HL
  | inc_L
  | dec_L
  | ld_L_n8 (n : Byte)
  | cpl
  | jr_NC_e8 (e : Byte)
  | ld_SP_n16 (n : Word)
  | ld_mHLd_A
  | inc_SP
  | inc_mHL
  | dec_mHL
  | ld_mHL_n8 (n : Byte)
  | scf
  | jr_C_e8 (e : Byte)
  | add_HL_SP
  | ld_A_mHLd
  | dec_SP
  | inc_A
  | dec_A
  | ld_A_n8 (n : Byte)
  | ccf
  -- quadrant x = 3 (R120)
  | ret_NZ
  | pop_BC
  | jp_NZ_a16 (a : Word)
  | jp_a16 (a : Word)
  | call_NZ_a16 (a : Word)
  | push_BC
  | add_A_n8 (n : Byte)
  | rst_00H
  | ret_Z
  | ret
  | jp_Z_a16 (a : Word)
  | prefix_CB
  | call_Z_a16 (a : Word)
  | call_a16 (a : Word)
  | adc_A_n8 (n : Byte)
  | rst_08H
  | ret_NC
  | pop_DE
  | jp_NC_a16 (a : Word)
  | illegal_D3
  | call_NC_a16 (a : Word)
  | push_DE
  | sub_n8 (n : Byte)
  | rst_10H
  | ret_C
  | reti
  | jp_C_a16 (a : Word)
  | illegal_DB
  | call_C_a16 (a : Word)
  | illegal_DD
  | sbc_A_n8 (n : Byte)
  | rst_18H
  | ldh_ma8_A (a : Byte)
  | pop_HL
  | ldh_mC_A
  | illegal_E3
  | illegal_E4
  | push_HL
  | and_n8 (n : Byte)
  | rst_20H
  | add_SP_e8 (e : Byte)
  | jp_HL
  | ld_ma16_A (a : Word)
  | illegal_EB
  | illegal_EC
  | illegal_ED
  | xor_n8 (n : Byte)
  | rst_28H
  | ldh_A_ma8 (a : Byte)
  | pop_AF
  | ldh_A_mC
  | di
  | illegal_F4
  | push_AF
  | or_n8 (n : Byte)
  | rst_30H
  | ld_HL_SPe8 (e : Byte)
  | ld_SP_HL
  | ld_A_ma16 (a : Word)
  | ei
  | illegal_FC
  | illegal_FD
  | cp_n8 (n : Byte)
  | rst_38H
  -- quadrant x = 1: loads and HALT (R119)
  | ld_B_B
  | ld_B_C
  | ld_B_D
  | ld_B_E
  | ld_B_H
  | ld_B_L
  | ld_B_mHL
  | ld_B_A
  | ld_C_B
  | ld_C_C
  | ld_C_D
  | ld_C_E
  | ld_C_H
  | ld_C_L
  | ld_C_mHL
  | ld_C_A
  | ld_D_B
  | ld_D_C
  | ld_D_D
  | ld_D_E
  | ld_D_H
  | ld_D_L
  | ld_D_mHL
  | ld_D_A
  | ld_E_B
  | ld_E_C
  | ld_E_D
  | ld_E_E
  | ld_E_H
  | ld_E_L
  | ld_E_mHL
  | ld_E_A
  | ld_H_B
  | ld_H_C
  | ld_H_D
  | ld_H_E
  | ld_H_H
  | ld_H_L
  | ld_H_mHL
  | ld_H_A
  | ld_L_B
  | ld_L_C
  | ld_L_D
  | ld_L_E
  | ld_L_H
  | ld_L_L
  | ld_L_mHL
  | ld_L_A
  | ld_mHL_B
  | ld_mHL_C
  | ld_mHL_D
  | ld_mHL_E
  | ld_mHL_H
  | ld_mHL_L
  | halt
  | ld_mHL_A
  | ld_A_B
  | ld_A_C
  | ld_A_D
  | ld_A_E
  | ld_A_H
  | ld_A_L
  | ld_A_mHL
  | ld_A_A
  -- quadrant x = 2: ALU on A and x[z] (R119)
  | add_A_B
  | add_A_C
  | add_A_D
  | add_A_E
  | add_A_H
  | add_A_L
  | add_A_mHL
  | add_A_A
  | adc_A_B
  | adc_A_C
  | adc_A_D
  | adc_A_E
  | adc_A_H
  | adc_A_L
  | adc_A_mHL
  | adc_A_A
  | sub_B
  | sub_C
  | sub_D
  | sub_E
  | sub_H
  | sub_L
  | sub_mHL
  | sub_A
  | sbc_A_B
  | sbc_A_C
  | sbc_A_D
  | sbc_A_E
  | sbc_A_H
  | sbc_A_L
  | sbc_A_mHL
  | sbc_A_A
  | and_B
  | and_C
  | and_D
  | and_E
  | and_H
  | and_L
  | and_mHL
  | and_A
  | xor_B
  | xor_C
  | xor_D
  | xor_E
  | xor_H
  | xor_L
  | xor_mHL
  | xor_A
  | or_B
  | or_C
  | or_D
  | or_E
  | or_H
  | or_L
  | or_mHL
  | or_A
  | cp_B
  | cp_C
  | cp_D
  | cp_E
  | cp_H
  | cp_L
  | cp_mHL
  | cp_A
  -- CB page: rotates and shifts (R121)
  | rlc_B
  | rlc_C
  | rlc_D
  | rlc_E
  | rlc_H
  | rlc_L
  | rlc_mHL
  | rlc_A
  | rrc_B
  | rrc_C
  | rrc_D
  | rrc_E
  | rrc_H
  | rrc_L
  | rrc_mHL
  | rrc_A
  | rl_B
  | rl_C
  | rl_D
  | rl_E
  | rl_H
  | rl_L
  | rl_mHL
  | rl_A
  | rr_B
  | rr_C
  | rr_D
  | rr_E
  | rr_H
  | rr_L
  | rr_mHL
  | rr_A
  | sla_B
  | sla_C
  | sla_D
  | sla_E
  | sla_H
  | sla_L
  | sla_mHL
  | sla_A
  | sra_B
  | sra_C
  | sra_D
  | sra_E
  | sra_H
  | sra_L
  | sra_mHL
  | sra_A
  | swap_B
  | swap_C
  | swap_D
  | swap_E
  | swap_H
  | swap_L
  | swap_mHL
  | swap_A
  | srl_B
  | srl_C
  | srl_D
  | srl_E
  | srl_H
  | srl_L
  | srl_mHL
  | srl_A
  -- CB page: BIT (R121)
  | bit_0_B
  | bit_0_C
  | bit_0_D
  | bit_0_E
  | bit_0_H
  | bit_0_L
  | bit_0_mHL
  | bit_0_A
  | bit_1_B
  | bit_1_C
  | bit_1_D
  | bit_1_E
  | bit_1_H
  | bit_1_L
  | bit_1_mHL
  | bit_1_A
  | bit_2_B
  | bit_2_C
  | bit_2_D
  | bit_2_E
  | bit_2_H
  | bit_2_L
  | bit_2_mHL
  | bit_2_A
  | bit_3_B
  | bit_3_C
  | bit_3_D
  | bit_3_E
  | bit_3_H
  | bit_3_L
  | bit_3_mHL
  | bit_3_A
  | bit_4_B
  | bit_4_C
  | bit_4_D
  | bit_4_E
  | bit_4_H
  | bit_4_L
  | bit_4_mHL
  | bit_4_A
  | bit_5_B
  | bit_5_C
  | bit_5_D
  | bit_5_E
  | bit_5_H
  | bit_5_L
  | bit_5_mHL
  | bit_5_A
  | bit_6_B
  | bit_6_C
  | bit_6_D
  | bit_6_E
  | bit_6_H
  | bit_6_L
  | bit_6_mHL
  | bit_6_A
  | bit_7_B
  | bit_7_C
  | bit_7_D
  | bit_7_E
  | bit_7_H
  | bit_7_L
  | bit_7_mHL
  | bit_7_A
  -- CB page: RES (R121)
  | res_0_B
  | res_0_C
  | res_0_D
  | res_0_E
  | res_0_H
  | res_0_L
  | res_0_mHL
  | res_0_A
  | res_1_B
  | res_1_C
  | res_1_D
  | res_1_E
  | res_1_H
  | res_1_L
  | res_1_mHL
  | res_1_A
  | res_2_B
  | res_2_C
  | res_2_D
  | res_2_E
  | res_2_H
  | res_2_L
  | res_2_mHL
  | res_2_A
  | res_3_B
  | res_3_C
  | res_3_D
  | res_3_E
  | res_3_H
  | res_3_L
  | res_3_mHL
  | res_3_A
  | res_4_B
  | res_4_C
  | res_4_D
  | res_4_E
  | res_4_H
  | res_4_L
  | res_4_mHL
  | res_4_A
  | res_5_B
  | res_5_C
  | res_5_D
  | res_5_E
  | res_5_H
  | res_5_L
  | res_5_mHL
  | res_5_A
  | res_6_B
  | res_6_C
  | res_6_D
  | res_6_E
  | res_6_H
  | res_6_L
  | res_6_mHL
  | res_6_A
  | res_7_B
  | res_7_C
  | res_7_D
  | res_7_E
  | res_7_H
  | res_7_L
  | res_7_mHL
  | res_7_A
  -- CB page: SET (R121)
  | set_0_B
  | set_0_C
  | set_0_D
  | set_0_E
  | set_0_H
  | set_0_L
  | set_0_mHL
  | set_0_A
  | set_1_B
  | set_1_C
  | set_1_D
  | set_1_E
  | set_1_H
  | set_1_L
  | set_1_mHL
  | set_1_A
  | set_2_B
  | set_2_C
  | set_2_D
  | set_2_E
  | set_2_H
  | set_2_L
  | set_2_mHL
  | set_2_A
  | set_3_B
  | set_3_C
  | set_3_D
  | set_3_E
  | set_3_H
  | set_3_L
  | set_3_mHL
  | set_3_A
  | set_4_B
  | set_4_C
  | set_4_D
  | set_4_E
  | set_4_H
  | set_4_L
  | set_4_mHL
  | set_4_A
  | set_5_B
  | set_5_C
  | set_5_D
  | set_5_E
  | set_5_H
  | set_5_L
  | set_5_mHL
  | set_5_A
  | set_6_B
  | set_6_C
  | set_6_D
  | set_6_E
  | set_6_H
  | set_6_L
  | set_6_mHL
  | set_6_A
  | set_7_B
  | set_7_C
  | set_7_D
  | set_7_E
  | set_7_H
  | set_7_L
  | set_7_mHL
  | set_7_A
  deriving DecidableEq, Repr

/-- `LD r,r'` (40_loads8 R131). -/
def Instr.ldRR : Reg8 → Reg8 → Instr
  | .b, .b => .ld_B_B | .b, .c => .ld_B_C | .b, .d => .ld_B_D | .b, .e => .ld_B_E
  | .b, .h => .ld_B_H | .b, .l => .ld_B_L | .b, .a => .ld_B_A | .c, .b => .ld_C_B
  | .c, .c => .ld_C_C | .c, .d => .ld_C_D | .c, .e => .ld_C_E | .c, .h => .ld_C_H
  | .c, .l => .ld_C_L | .c, .a => .ld_C_A | .d, .b => .ld_D_B | .d, .c => .ld_D_C
  | .d, .d => .ld_D_D | .d, .e => .ld_D_E | .d, .h => .ld_D_H | .d, .l => .ld_D_L
  | .d, .a => .ld_D_A | .e, .b => .ld_E_B | .e, .c => .ld_E_C | .e, .d => .ld_E_D
  | .e, .e => .ld_E_E | .e, .h => .ld_E_H | .e, .l => .ld_E_L | .e, .a => .ld_E_A
  | .h, .b => .ld_H_B | .h, .c => .ld_H_C | .h, .d => .ld_H_D | .h, .e => .ld_H_E
  | .h, .h => .ld_H_H | .h, .l => .ld_H_L | .h, .a => .ld_H_A | .l, .b => .ld_L_B
  | .l, .c => .ld_L_C | .l, .d => .ld_L_D | .l, .e => .ld_L_E | .l, .h => .ld_L_H
  | .l, .l => .ld_L_L | .l, .a => .ld_L_A | .a, .b => .ld_A_B | .a, .c => .ld_A_C
  | .a, .d => .ld_A_D | .a, .e => .ld_A_E | .a, .h => .ld_A_H | .a, .l => .ld_A_L
  | .a, .a => .ld_A_A

/-- `LD r,n8` (R132). -/
def Instr.ldRN8 : Reg8 → Byte → Instr
  | .b, n => .ld_B_n8 n | .c, n => .ld_C_n8 n | .d, n => .ld_D_n8 n | .e, n => .ld_E_n8 n
  | .h, n => .ld_H_n8 n | .l, n => .ld_L_n8 n | .a, n => .ld_A_n8 n

/-- `LD r,(HL)` (R133). -/
def Instr.ldRM : Reg8 → Instr
  | .b => .ld_B_mHL | .c => .ld_C_mHL | .d => .ld_D_mHL | .e => .ld_E_mHL
  | .h => .ld_H_mHL | .l => .ld_L_mHL | .a => .ld_A_mHL

/-- `LD (HL),r` (R134). -/
def Instr.ldMR : Reg8 → Instr
  | .b => .ld_mHL_B | .c => .ld_mHL_C | .d => .ld_mHL_D | .e => .ld_mHL_E
  | .h => .ld_mHL_H | .l => .ld_mHL_L | .a => .ld_mHL_A

/-- The ALU operations on `A` and `x[z]` (41_alu8 R161 to R184). -/
def Instr.alu : AluOp → Operand8 → Instr
  | .add, .reg .b => .add_A_B | .add, .reg .c => .add_A_C | .add, .reg .d => .add_A_D | .add, .reg .e => .add_A_E
  | .add, .reg .h => .add_A_H | .add, .reg .l => .add_A_L | .add, .reg .a => .add_A_A | .add, .mHL => .add_A_mHL
  | .adc, .reg .b => .adc_A_B | .adc, .reg .c => .adc_A_C | .adc, .reg .d => .adc_A_D | .adc, .reg .e => .adc_A_E
  | .adc, .reg .h => .adc_A_H | .adc, .reg .l => .adc_A_L | .adc, .reg .a => .adc_A_A | .adc, .mHL => .adc_A_mHL
  | .sub, .reg .b => .sub_B | .sub, .reg .c => .sub_C | .sub, .reg .d => .sub_D | .sub, .reg .e => .sub_E
  | .sub, .reg .h => .sub_H | .sub, .reg .l => .sub_L | .sub, .reg .a => .sub_A | .sub, .mHL => .sub_mHL
  | .sbc, .reg .b => .sbc_A_B | .sbc, .reg .c => .sbc_A_C | .sbc, .reg .d => .sbc_A_D | .sbc, .reg .e => .sbc_A_E
  | .sbc, .reg .h => .sbc_A_H | .sbc, .reg .l => .sbc_A_L | .sbc, .reg .a => .sbc_A_A | .sbc, .mHL => .sbc_A_mHL
  | .and, .reg .b => .and_B | .and, .reg .c => .and_C | .and, .reg .d => .and_D | .and, .reg .e => .and_E
  | .and, .reg .h => .and_H | .and, .reg .l => .and_L | .and, .reg .a => .and_A | .and, .mHL => .and_mHL
  | .xor, .reg .b => .xor_B | .xor, .reg .c => .xor_C | .xor, .reg .d => .xor_D | .xor, .reg .e => .xor_E
  | .xor, .reg .h => .xor_H | .xor, .reg .l => .xor_L | .xor, .reg .a => .xor_A | .xor, .mHL => .xor_mHL
  | .or, .reg .b => .or_B | .or, .reg .c => .or_C | .or, .reg .d => .or_D | .or, .reg .e => .or_E
  | .or, .reg .h => .or_H | .or, .reg .l => .or_L | .or, .reg .a => .or_A | .or, .mHL => .or_mHL
  | .cp, .reg .b => .cp_B | .cp, .reg .c => .cp_C | .cp, .reg .d => .cp_D | .cp, .reg .e => .cp_E
  | .cp, .reg .h => .cp_H | .cp, .reg .l => .cp_L | .cp, .reg .a => .cp_A | .cp, .mHL => .cp_mHL

/-- The ALU operations on `A` and an immediate (41_alu8 R163 to R184). -/
def Instr.aluN8 : AluOp → Byte → Instr
  | .add, n => .add_A_n8 n | .adc, n => .adc_A_n8 n | .sub, n => .sub_n8 n | .sbc, n => .sbc_A_n8 n
  | .and, n => .and_n8 n | .xor, n => .xor_n8 n | .or, n => .or_n8 n | .cp, n => .cp_n8 n

/-- `INC r` and `INC (HL)` (41_alu8 R185, R186). -/
def Instr.incX : Operand8 → Instr
  | .reg .b => .inc_B | .reg .c => .inc_C | .reg .d => .inc_D | .reg .e => .inc_E
  | .reg .h => .inc_H | .reg .l => .inc_L | .reg .a => .inc_A | .mHL => .inc_mHL

/-- `DEC r` and `DEC (HL)` (41_alu8 R187, R188). -/
def Instr.decX : Operand8 → Instr
  | .reg .b => .dec_B | .reg .c => .dec_C | .reg .d => .dec_D | .reg .e => .dec_E
  | .reg .h => .dec_H | .reg .l => .dec_L | .reg .a => .dec_A | .mHL => .dec_mHL

/-- `LD rr,n16` (42_loads16_alu16 R210). -/
def Instr.ldRrN16 : Reg16 → Word → Instr
  | .bc, n => .ld_BC_n16 n | .de, n => .ld_DE_n16 n | .hl, n => .ld_HL_n16 n | .sp, n => .ld_SP_n16 n

/-- `INC rr` (R216). -/
def Instr.incRr : Reg16 → Instr
  | .bc => .inc_BC | .de => .inc_DE | .hl => .inc_HL | .sp => .inc_SP

/-- `DEC rr` (R217). -/
def Instr.decRr : Reg16 → Instr
  | .bc => .dec_BC | .de => .dec_DE | .hl => .dec_HL | .sp => .dec_SP

/-- `ADD HL,rr` (R218). -/
def Instr.addHlRr : Reg16 → Instr
  | .bc => .add_HL_BC | .de => .add_HL_DE | .hl => .add_HL_HL | .sp => .add_HL_SP

/-- `PUSH rr` (R213). -/
def Instr.push : StackReg → Instr
  | .bc => .push_BC | .de => .push_DE | .hl => .push_HL | .af => .push_AF

/-- `POP rr` (R214). -/
def Instr.pop : StackReg → Instr
  | .bc => .pop_BC | .de => .pop_DE | .hl => .pop_HL | .af => .pop_AF

/-- `JR cc,e8` (44_control R275). -/
def Instr.jrCc : Cond → Byte → Instr
  | .nz, e => .jr_NZ_e8 e | .z, e => .jr_Z_e8 e | .nc, e => .jr_NC_e8 e | .c, e => .jr_C_e8 e

/-- `JP cc,a16` (44_control R272). -/
def Instr.jpCc : Cond → Word → Instr
  | .nz, a => .jp_NZ_a16 a | .z, a => .jp_Z_a16 a | .nc, a => .jp_NC_a16 a | .c, a => .jp_C_a16 a

/-- `CALL cc,a16` (44_control R277). -/
def Instr.callCc : Cond → Word → Instr
  | .nz, a => .call_NZ_a16 a | .z, a => .call_Z_a16 a | .nc, a => .call_NC_a16 a | .c, a => .call_C_a16 a

/-- `RET cc` (44_control R279). -/
def Instr.retCc : Cond → Instr
  | .nz => .ret_NZ | .z => .ret_Z | .nc => .ret_NC | .c => .ret_C

/-- `RST 8*y` (44_control R281). -/
def Instr.rst : Fin 8 → Instr
  | 0 => .rst_00H | 1 => .rst_08H | 2 => .rst_10H | 3 => .rst_18H
  | 4 => .rst_20H | 5 => .rst_28H | 6 => .rst_30H | 7 => .rst_38H

/-- The rotates and shifts of the CB page (43_rotates_bits R235 to R250). -/
def Instr.rot : RotOp → Operand8 → Instr
  | .rlc, .reg .b => .rlc_B | .rlc, .reg .c => .rlc_C | .rlc, .reg .d => .rlc_D | .rlc, .reg .e => .rlc_E
  | .rlc, .reg .h => .rlc_H | .rlc, .reg .l => .rlc_L | .rlc, .reg .a => .rlc_A | .rlc, .mHL => .rlc_mHL
  | .rrc, .reg .b => .rrc_B | .rrc, .reg .c => .rrc_C | .rrc, .reg .d => .rrc_D | .rrc, .reg .e => .rrc_E
  | .rrc, .reg .h => .rrc_H | .rrc, .reg .l => .rrc_L | .rrc, .reg .a => .rrc_A | .rrc, .mHL => .rrc_mHL
  | .rl, .reg .b => .rl_B | .rl, .reg .c => .rl_C | .rl, .reg .d => .rl_D | .rl, .reg .e => .rl_E
  | .rl, .reg .h => .rl_H | .rl, .reg .l => .rl_L | .rl, .reg .a => .rl_A | .rl, .mHL => .rl_mHL
  | .rr, .reg .b => .rr_B | .rr, .reg .c => .rr_C | .rr, .reg .d => .rr_D | .rr, .reg .e => .rr_E
  | .rr, .reg .h => .rr_H | .rr, .reg .l => .rr_L | .rr, .reg .a => .rr_A | .rr, .mHL => .rr_mHL
  | .sla, .reg .b => .sla_B | .sla, .reg .c => .sla_C | .sla, .reg .d => .sla_D | .sla, .reg .e => .sla_E
  | .sla, .reg .h => .sla_H | .sla, .reg .l => .sla_L | .sla, .reg .a => .sla_A | .sla, .mHL => .sla_mHL
  | .sra, .reg .b => .sra_B | .sra, .reg .c => .sra_C | .sra, .reg .d => .sra_D | .sra, .reg .e => .sra_E
  | .sra, .reg .h => .sra_H | .sra, .reg .l => .sra_L | .sra, .reg .a => .sra_A | .sra, .mHL => .sra_mHL
  | .swap, .reg .b => .swap_B | .swap, .reg .c => .swap_C | .swap, .reg .d => .swap_D | .swap, .reg .e => .swap_E
  | .swap, .reg .h => .swap_H | .swap, .reg .l => .swap_L | .swap, .reg .a => .swap_A | .swap, .mHL => .swap_mHL
  | .srl, .reg .b => .srl_B | .srl, .reg .c => .srl_C | .srl, .reg .d => .srl_D | .srl, .reg .e => .srl_E
  | .srl, .reg .h => .srl_H | .srl, .reg .l => .srl_L | .srl, .reg .a => .srl_A | .srl, .mHL => .srl_mHL

/-- `BIT b,r` and `BIT b,(HL)` (43_rotates_bits R251, R252). -/
def Instr.bit : Fin 8 → Operand8 → Instr
  | 0, .reg .b => .bit_0_B | 0, .reg .c => .bit_0_C | 0, .reg .d => .bit_0_D | 0, .reg .e => .bit_0_E
  | 0, .reg .h => .bit_0_H | 0, .reg .l => .bit_0_L | 0, .reg .a => .bit_0_A | 0, .mHL => .bit_0_mHL
  | 1, .reg .b => .bit_1_B | 1, .reg .c => .bit_1_C | 1, .reg .d => .bit_1_D | 1, .reg .e => .bit_1_E
  | 1, .reg .h => .bit_1_H | 1, .reg .l => .bit_1_L | 1, .reg .a => .bit_1_A | 1, .mHL => .bit_1_mHL
  | 2, .reg .b => .bit_2_B | 2, .reg .c => .bit_2_C | 2, .reg .d => .bit_2_D | 2, .reg .e => .bit_2_E
  | 2, .reg .h => .bit_2_H | 2, .reg .l => .bit_2_L | 2, .reg .a => .bit_2_A | 2, .mHL => .bit_2_mHL
  | 3, .reg .b => .bit_3_B | 3, .reg .c => .bit_3_C | 3, .reg .d => .bit_3_D | 3, .reg .e => .bit_3_E
  | 3, .reg .h => .bit_3_H | 3, .reg .l => .bit_3_L | 3, .reg .a => .bit_3_A | 3, .mHL => .bit_3_mHL
  | 4, .reg .b => .bit_4_B | 4, .reg .c => .bit_4_C | 4, .reg .d => .bit_4_D | 4, .reg .e => .bit_4_E
  | 4, .reg .h => .bit_4_H | 4, .reg .l => .bit_4_L | 4, .reg .a => .bit_4_A | 4, .mHL => .bit_4_mHL
  | 5, .reg .b => .bit_5_B | 5, .reg .c => .bit_5_C | 5, .reg .d => .bit_5_D | 5, .reg .e => .bit_5_E
  | 5, .reg .h => .bit_5_H | 5, .reg .l => .bit_5_L | 5, .reg .a => .bit_5_A | 5, .mHL => .bit_5_mHL
  | 6, .reg .b => .bit_6_B | 6, .reg .c => .bit_6_C | 6, .reg .d => .bit_6_D | 6, .reg .e => .bit_6_E
  | 6, .reg .h => .bit_6_H | 6, .reg .l => .bit_6_L | 6, .reg .a => .bit_6_A | 6, .mHL => .bit_6_mHL
  | 7, .reg .b => .bit_7_B | 7, .reg .c => .bit_7_C | 7, .reg .d => .bit_7_D | 7, .reg .e => .bit_7_E
  | 7, .reg .h => .bit_7_H | 7, .reg .l => .bit_7_L | 7, .reg .a => .bit_7_A | 7, .mHL => .bit_7_mHL

/-- `RES b,r` and `RES b,(HL)` (43_rotates_bits R253, R254). -/
def Instr.res : Fin 8 → Operand8 → Instr
  | 0, .reg .b => .res_0_B | 0, .reg .c => .res_0_C | 0, .reg .d => .res_0_D | 0, .reg .e => .res_0_E
  | 0, .reg .h => .res_0_H | 0, .reg .l => .res_0_L | 0, .reg .a => .res_0_A | 0, .mHL => .res_0_mHL
  | 1, .reg .b => .res_1_B | 1, .reg .c => .res_1_C | 1, .reg .d => .res_1_D | 1, .reg .e => .res_1_E
  | 1, .reg .h => .res_1_H | 1, .reg .l => .res_1_L | 1, .reg .a => .res_1_A | 1, .mHL => .res_1_mHL
  | 2, .reg .b => .res_2_B | 2, .reg .c => .res_2_C | 2, .reg .d => .res_2_D | 2, .reg .e => .res_2_E
  | 2, .reg .h => .res_2_H | 2, .reg .l => .res_2_L | 2, .reg .a => .res_2_A | 2, .mHL => .res_2_mHL
  | 3, .reg .b => .res_3_B | 3, .reg .c => .res_3_C | 3, .reg .d => .res_3_D | 3, .reg .e => .res_3_E
  | 3, .reg .h => .res_3_H | 3, .reg .l => .res_3_L | 3, .reg .a => .res_3_A | 3, .mHL => .res_3_mHL
  | 4, .reg .b => .res_4_B | 4, .reg .c => .res_4_C | 4, .reg .d => .res_4_D | 4, .reg .e => .res_4_E
  | 4, .reg .h => .res_4_H | 4, .reg .l => .res_4_L | 4, .reg .a => .res_4_A | 4, .mHL => .res_4_mHL
  | 5, .reg .b => .res_5_B | 5, .reg .c => .res_5_C | 5, .reg .d => .res_5_D | 5, .reg .e => .res_5_E
  | 5, .reg .h => .res_5_H | 5, .reg .l => .res_5_L | 5, .reg .a => .res_5_A | 5, .mHL => .res_5_mHL
  | 6, .reg .b => .res_6_B | 6, .reg .c => .res_6_C | 6, .reg .d => .res_6_D | 6, .reg .e => .res_6_E
  | 6, .reg .h => .res_6_H | 6, .reg .l => .res_6_L | 6, .reg .a => .res_6_A | 6, .mHL => .res_6_mHL
  | 7, .reg .b => .res_7_B | 7, .reg .c => .res_7_C | 7, .reg .d => .res_7_D | 7, .reg .e => .res_7_E
  | 7, .reg .h => .res_7_H | 7, .reg .l => .res_7_L | 7, .reg .a => .res_7_A | 7, .mHL => .res_7_mHL

/-- `SET b,r` and `SET b,(HL)` (43_rotates_bits R255, R256). -/
def Instr.set : Fin 8 → Operand8 → Instr
  | 0, .reg .b => .set_0_B | 0, .reg .c => .set_0_C | 0, .reg .d => .set_0_D | 0, .reg .e => .set_0_E
  | 0, .reg .h => .set_0_H | 0, .reg .l => .set_0_L | 0, .reg .a => .set_0_A | 0, .mHL => .set_0_mHL
  | 1, .reg .b => .set_1_B | 1, .reg .c => .set_1_C | 1, .reg .d => .set_1_D | 1, .reg .e => .set_1_E
  | 1, .reg .h => .set_1_H | 1, .reg .l => .set_1_L | 1, .reg .a => .set_1_A | 1, .mHL => .set_1_mHL
  | 2, .reg .b => .set_2_B | 2, .reg .c => .set_2_C | 2, .reg .d => .set_2_D | 2, .reg .e => .set_2_E
  | 2, .reg .h => .set_2_H | 2, .reg .l => .set_2_L | 2, .reg .a => .set_2_A | 2, .mHL => .set_2_mHL
  | 3, .reg .b => .set_3_B | 3, .reg .c => .set_3_C | 3, .reg .d => .set_3_D | 3, .reg .e => .set_3_E
  | 3, .reg .h => .set_3_H | 3, .reg .l => .set_3_L | 3, .reg .a => .set_3_A | 3, .mHL => .set_3_mHL
  | 4, .reg .b => .set_4_B | 4, .reg .c => .set_4_C | 4, .reg .d => .set_4_D | 4, .reg .e => .set_4_E
  | 4, .reg .h => .set_4_H | 4, .reg .l => .set_4_L | 4, .reg .a => .set_4_A | 4, .mHL => .set_4_mHL
  | 5, .reg .b => .set_5_B | 5, .reg .c => .set_5_C | 5, .reg .d => .set_5_D | 5, .reg .e => .set_5_E
  | 5, .reg .h => .set_5_H | 5, .reg .l => .set_5_L | 5, .reg .a => .set_5_A | 5, .mHL => .set_5_mHL
  | 6, .reg .b => .set_6_B | 6, .reg .c => .set_6_C | 6, .reg .d => .set_6_D | 6, .reg .e => .set_6_E
  | 6, .reg .h => .set_6_H | 6, .reg .l => .set_6_L | 6, .reg .a => .set_6_A | 6, .mHL => .set_6_mHL
  | 7, .reg .b => .set_7_B | 7, .reg .c => .set_7_C | 7, .reg .d => .set_7_D | 7, .reg .e => .set_7_E
  | 7, .reg .h => .set_7_H | 7, .reg .l => .set_7_L | 7, .reg .a => .set_7_A | 7, .mHL => .set_7_mHL

/-- The eleven opcode bytes that select no instruction, each with its row (30_encoding R113). -/
def Instr.illegalRows : List (Byte × Instr) :=
  [(0xD3, .illegal_D3), (0xDB, .illegal_DB), (0xDD, .illegal_DD), (0xE3, .illegal_E3), (0xE4, .illegal_E4), (0xEB, .illegal_EB),
   (0xEC, .illegal_EC), (0xED, .illegal_ED), (0xF4, .illegal_F4), (0xFC, .illegal_FC), (0xFD, .illegal_FD)]

end Sys2Proof
end

