-- ==== Sys2Proof/WellFormed.lean ====
section
/-! DEFINITION. Which terms of `Instr` are whole instructions. Every operand type holds exactly the values its
encoding admits (30_encoding R103 to R109), so the one check is on the prefix: the `CB` byte "and its operation are
one instruction" (45_system R295), and the constructor `prefix_CB`, which stands for the table's row of the lone prefix
byte, is not a whole one (notes/assumptions/8.md). -/

namespace Sys2Proof

/-- A whole instruction: any row but the lone `CB` prefix (45_system R295). -/
def Instr.wellFormed (i : Instr) : Bool := decide (i ≠ .prefix_CB)

end Sys2Proof
end

