-- ==== Sys2Proof/Decode.lean ====
section
/-! DEFINITION. The decoder and the encoder. An instruction's first byte alone decides its length and format
(30_encoding R100); the tables below are opcode_table.json's rows, laid out by the fields of R101 and R102 (quadrant
`x`, row `y`, column `z`). The decoder is total on byte lists and rejects by name; every opcode byte and every CB-opcode
byte has a row (R114). -/

namespace Sys2Proof

/-- The low byte of a word (00_scope section 6.1, `lo`). -/
def loByte (w : Word) : Byte := w.extractLsb' 0 8

/-- The high byte of a word (00_scope section 6.1, `hi`). -/
def hiByte (w : Word) : Byte := w.extractLsb' 8 8

/-- `{h, l}`: the word of a high and a low byte; in memory the low byte has the lower address (20_memory R90). -/
def wordOf (h l : Byte) : Word := h ++ l

/-- The 3-bit code of a register (30_encoding R104). -/
def Reg8.code : Reg8 → Nat
  | .b => 0 | .c => 1 | .d => 2 | .e => 3 | .h => 4 | .l => 5 | .a => 7

/-- The 3-bit code of `x[code]` (30_encoding R104). -/
def Operand8.code : Operand8 → Nat
  | .reg r => r.code | .mHL => 6

/-- The 2-bit code of `rr[p]` (30_encoding R105). -/
def Reg16.code : Reg16 → Nat
  | .bc => 0 | .de => 1 | .hl => 2 | .sp => 3

/-- The 2-bit code of `rs[p]` (30_encoding R105). -/
def StackReg.code : StackReg → Nat
  | .bc => 0 | .de => 1 | .hl => 2 | .af => 3

/-- The 2-bit condition code (30_encoding R106). -/
def Cond.code : Cond → Nat
  | .nz => 0 | .z => 1 | .nc => 2 | .c => 3

/-- The operation code `y` of an ALU instruction (30_encoding R119). -/
def AluOp.code : AluOp → Nat
  | .add => 0 | .adc => 1 | .sub => 2 | .sbc => 3 | .and => 4 | .xor => 5 | .or => 6 | .cp => 7

/-- The operation code `y` of a rotate or shift (30_encoding R102). -/
def RotOp.code : RotOp → Nat
  | .rlc => 0 | .rrc => 1 | .rl => 2 | .rr => 3 | .sla => 4 | .sra => 5 | .swap => 6 | .srl => 7

/-- The byte with fields `x` (bits 7..6), `y` (bits 5..3) and `z` (bits 2..0) (30_encoding R101, R102). -/
def xyz (x y z : Nat) : Byte := BitVec.ofNat 8 (64 * x + 8 * y + z)

/-- What an opcode byte selects: the instruction's format and the row it builds (30_encoding R100). `OP_n8`,
`OP_a8` and `OP_e8` are one shape to the decoder, a byte operand. -/
inductive Row where
  | op (i : Instr)
  | byte (f : Byte → Instr)
  | word (f : Word → Instr)
  | cb

/-- The irregular quadrant `x = 0` (30_encoding R118). One line per `y`, one entry per `z`. -/
def quadrant0 : List (List Row) :=
  [[.op .nop, .word .ld_BC_n16, .op .ld_mBC_A, .op .inc_BC, .op .inc_B, .op .dec_B, .byte .ld_B_n8, .op .rlca],
   [.word .ld_ma16_SP, .op .add_HL_BC, .op .ld_A_mBC, .op .dec_BC, .op .inc_C, .op .dec_C, .byte .ld_C_n8, .op .rrca],
   [.byte .stop, .word .ld_DE_n16, .op .ld_mDE_A, .op .inc_DE, .op .inc_D, .op .dec_D, .byte .ld_D_n8, .op .rla],
   [.byte .jr_e8, .op .add_HL_DE, .op .ld_A_mDE, .op .dec_DE, .op .inc_E, .op .dec_E, .byte .ld_E_n8, .op .rra],
   [.byte .jr_NZ_e8, .word .ld_HL_n16, .op .ld_mHLi_A, .op .inc_HL, .op .inc_H, .op .dec_H, .byte .ld_H_n8, .op .daa],
   [.byte .jr_Z_e8, .op .add_HL_HL, .op .ld_A_mHLi, .op .dec_HL, .op .inc_L, .op .dec_L, .byte .ld_L_n8, .op .cpl],
   [.byte .jr_NC_e8, .word .ld_SP_n16, .op .ld_mHLd_A, .op .inc_SP, .op .inc_mHL, .op .dec_mHL, .byte .ld_mHL_n8, .op .scf],
   [.byte .jr_C_e8, .op .add_HL_SP, .op .ld_A_mHLd, .op .dec_SP, .op .inc_A, .op .dec_A, .byte .ld_A_n8, .op .ccf]]

/-- Quadrant `x = 1`: the register loads, and `HALT` at 0x76 (30_encoding R119). One line per `y`, one entry per `z`. -/
def quadrant1 : List (List Row) :=
  [[.op .ld_B_B, .op .ld_B_C, .op .ld_B_D, .op .ld_B_E, .op .ld_B_H, .op .ld_B_L, .op .ld_B_mHL, .op .ld_B_A],
   [.op .ld_C_B, .op .ld_C_C, .op .ld_C_D, .op .ld_C_E, .op .ld_C_H, .op .ld_C_L, .op .ld_C_mHL, .op .ld_C_A],
   [.op .ld_D_B, .op .ld_D_C, .op .ld_D_D, .op .ld_D_E, .op .ld_D_H, .op .ld_D_L, .op .ld_D_mHL, .op .ld_D_A],
   [.op .ld_E_B, .op .ld_E_C, .op .ld_E_D, .op .ld_E_E, .op .ld_E_H, .op .ld_E_L, .op .ld_E_mHL, .op .ld_E_A],
   [.op .ld_H_B, .op .ld_H_C, .op .ld_H_D, .op .ld_H_E, .op .ld_H_H, .op .ld_H_L, .op .ld_H_mHL, .op .ld_H_A],
   [.op .ld_L_B, .op .ld_L_C, .op .ld_L_D, .op .ld_L_E, .op .ld_L_H, .op .ld_L_L, .op .ld_L_mHL, .op .ld_L_A],
   [.op .ld_mHL_B, .op .ld_mHL_C, .op .ld_mHL_D, .op .ld_mHL_E, .op .ld_mHL_H, .op .ld_mHL_L, .op .halt, .op .ld_mHL_A],
   [.op .ld_A_B, .op .ld_A_C, .op .ld_A_D, .op .ld_A_E, .op .ld_A_H, .op .ld_A_L, .op .ld_A_mHL, .op .ld_A_A]]

/-- Quadrant `x = 2`: ALU operation `y` on `A` and `x[z]` (30_encoding R119). One line per `y`, one entry per `z`. -/
def quadrant2 : List (List Row) :=
  [[.op .add_A_B, .op .add_A_C, .op .add_A_D, .op .add_A_E, .op .add_A_H, .op .add_A_L, .op .add_A_mHL, .op .add_A_A],
   [.op .adc_A_B, .op .adc_A_C, .op .adc_A_D, .op .adc_A_E, .op .adc_A_H, .op .adc_A_L, .op .adc_A_mHL, .op .adc_A_A],
   [.op .sub_B, .op .sub_C, .op .sub_D, .op .sub_E, .op .sub_H, .op .sub_L, .op .sub_mHL, .op .sub_A],
   [.op .sbc_A_B, .op .sbc_A_C, .op .sbc_A_D, .op .sbc_A_E, .op .sbc_A_H, .op .sbc_A_L, .op .sbc_A_mHL, .op .sbc_A_A],
   [.op .and_B, .op .and_C, .op .and_D, .op .and_E, .op .and_H, .op .and_L, .op .and_mHL, .op .and_A],
   [.op .xor_B, .op .xor_C, .op .xor_D, .op .xor_E, .op .xor_H, .op .xor_L, .op .xor_mHL, .op .xor_A],
   [.op .or_B, .op .or_C, .op .or_D, .op .or_E, .op .or_H, .op .or_L, .op .or_mHL, .op .or_A],
   [.op .cp_B, .op .cp_C, .op .cp_D, .op .cp_E, .op .cp_H, .op .cp_L, .op .cp_mHL, .op .cp_A]]

/-- The irregular quadrant `x = 3` (30_encoding R120). One line per `y`, one entry per `z`. -/
def quadrant3 : List (List Row) :=
  [[.op .ret_NZ, .op .pop_BC, .word .jp_NZ_a16, .word .jp_a16, .word .call_NZ_a16, .op .push_BC, .byte .add_A_n8, .op .rst_00H],
   [.op .ret_Z, .op .ret, .word .jp_Z_a16, .cb, .word .call_Z_a16, .word .call_a16, .byte .adc_A_n8, .op .rst_08H],
   [.op .ret_NC, .op .pop_DE, .word .jp_NC_a16, .op .illegal_D3, .word .call_NC_a16, .op .push_DE, .byte .sub_n8, .op .rst_10H],
   [.op .ret_C, .op .reti, .word .jp_C_a16, .op .illegal_DB, .word .call_C_a16, .op .illegal_DD, .byte .sbc_A_n8, .op .rst_18H],
   [.byte .ldh_ma8_A, .op .pop_HL, .op .ldh_mC_A, .op .illegal_E3, .op .illegal_E4, .op .push_HL, .byte .and_n8, .op .rst_20H],
   [.byte .add_SP_e8, .op .jp_HL, .word .ld_ma16_A, .op .illegal_EB, .op .illegal_EC, .op .illegal_ED, .byte .xor_n8, .op .rst_28H],
   [.byte .ldh_A_ma8, .op .pop_AF, .op .ldh_A_mC, .op .di, .op .illegal_F4, .op .push_AF, .byte .or_n8, .op .rst_30H],
   [.byte .ld_HL_SPe8, .op .ld_SP_HL, .word .ld_A_ma16, .op .ei, .op .illegal_FC, .op .illegal_FD, .byte .cp_n8, .op .rst_38H]]

/-- The CB page, `x = 0`: rotate or shift `y` on `x[z]` (30_encoding R102, R121). -/
def cbQuadrant0 : List (List Instr) :=
  [[.rlc_B, .rlc_C, .rlc_D, .rlc_E, .rlc_H, .rlc_L, .rlc_mHL, .rlc_A],
   [.rrc_B, .rrc_C, .rrc_D, .rrc_E, .rrc_H, .rrc_L, .rrc_mHL, .rrc_A],
   [.rl_B, .rl_C, .rl_D, .rl_E, .rl_H, .rl_L, .rl_mHL, .rl_A],
   [.rr_B, .rr_C, .rr_D, .rr_E, .rr_H, .rr_L, .rr_mHL, .rr_A],
   [.sla_B, .sla_C, .sla_D, .sla_E, .sla_H, .sla_L, .sla_mHL, .sla_A],
   [.sra_B, .sra_C, .sra_D, .sra_E, .sra_H, .sra_L, .sra_mHL, .sra_A],
   [.swap_B, .swap_C, .swap_D, .swap_E, .swap_H, .swap_L, .swap_mHL, .swap_A],
   [.srl_B, .srl_C, .srl_D, .srl_E, .srl_H, .srl_L, .srl_mHL, .srl_A]]

/-- The CB page, `x = 1`: `BIT y,x[z]` (30_encoding R102, R121). -/
def cbQuadrant1 : List (List Instr) :=
  [[.bit_0_B, .bit_0_C, .bit_0_D, .bit_0_E, .bit_0_H, .bit_0_L, .bit_0_mHL, .bit_0_A],
   [.bit_1_B, .bit_1_C, .bit_1_D, .bit_1_E, .bit_1_H, .bit_1_L, .bit_1_mHL, .bit_1_A],
   [.bit_2_B, .bit_2_C, .bit_2_D, .bit_2_E, .bit_2_H, .bit_2_L, .bit_2_mHL, .bit_2_A],
   [.bit_3_B, .bit_3_C, .bit_3_D, .bit_3_E, .bit_3_H, .bit_3_L, .bit_3_mHL, .bit_3_A],
   [.bit_4_B, .bit_4_C, .bit_4_D, .bit_4_E, .bit_4_H, .bit_4_L, .bit_4_mHL, .bit_4_A],
   [.bit_5_B, .bit_5_C, .bit_5_D, .bit_5_E, .bit_5_H, .bit_5_L, .bit_5_mHL, .bit_5_A],
   [.bit_6_B, .bit_6_C, .bit_6_D, .bit_6_E, .bit_6_H, .bit_6_L, .bit_6_mHL, .bit_6_A],
   [.bit_7_B, .bit_7_C, .bit_7_D, .bit_7_E, .bit_7_H, .bit_7_L, .bit_7_mHL, .bit_7_A]]

/-- The CB page, `x = 2`: `RES y,x[z]` (30_encoding R102, R121). -/
def cbQuadrant2 : List (List Instr) :=
  [[.res_0_B, .res_0_C, .res_0_D, .res_0_E, .res_0_H, .res_0_L, .res_0_mHL, .res_0_A],
   [.res_1_B, .res_1_C, .res_1_D, .res_1_E, .res_1_H, .res_1_L, .res_1_mHL, .res_1_A],
   [.res_2_B, .res_2_C, .res_2_D, .res_2_E, .res_2_H, .res_2_L, .res_2_mHL, .res_2_A],
   [.res_3_B, .res_3_C, .res_3_D, .res_3_E, .res_3_H, .res_3_L, .res_3_mHL, .res_3_A],
   [.res_4_B, .res_4_C, .res_4_D, .res_4_E, .res_4_H, .res_4_L, .res_4_mHL, .res_4_A],
   [.res_5_B, .res_5_C, .res_5_D, .res_5_E, .res_5_H, .res_5_L, .res_5_mHL, .res_5_A],
   [.res_6_B, .res_6_C, .res_6_D, .res_6_E, .res_6_H, .res_6_L, .res_6_mHL, .res_6_A],
   [.res_7_B, .res_7_C, .res_7_D, .res_7_E, .res_7_H, .res_7_L, .res_7_mHL, .res_7_A]]

/-- The CB page, `x = 3`: `SET y,x[z]` (30_encoding R102, R121). -/
def cbQuadrant3 : List (List Instr) :=
  [[.set_0_B, .set_0_C, .set_0_D, .set_0_E, .set_0_H, .set_0_L, .set_0_mHL, .set_0_A],
   [.set_1_B, .set_1_C, .set_1_D, .set_1_E, .set_1_H, .set_1_L, .set_1_mHL, .set_1_A],
   [.set_2_B, .set_2_C, .set_2_D, .set_2_E, .set_2_H, .set_2_L, .set_2_mHL, .set_2_A],
   [.set_3_B, .set_3_C, .set_3_D, .set_3_E, .set_3_H, .set_3_L, .set_3_mHL, .set_3_A],
   [.set_4_B, .set_4_C, .set_4_D, .set_4_E, .set_4_H, .set_4_L, .set_4_mHL, .set_4_A],
   [.set_5_B, .set_5_C, .set_5_D, .set_5_E, .set_5_H, .set_5_L, .set_5_mHL, .set_5_A],
   [.set_6_B, .set_6_C, .set_6_D, .set_6_E, .set_6_H, .set_6_L, .set_6_mHL, .set_6_A],
   [.set_7_B, .set_7_C, .set_7_D, .set_7_E, .set_7_H, .set_7_L, .set_7_mHL, .set_7_A]]

/-- The entry of a table of quadrants at a byte's fields `x`, `y`, `z` (30_encoding R101). -/
def fieldLookup {α : Type} (quadrants : List (List (List α))) (v : Byte) : Option α :=
  match quadrants[v.toNat / 64]? with
  | none => none
  | some rows =>
    match rows[v.toNat / 8 % 8]? with
    | none => none
    | some cols => cols[v.toNat % 8]?

/-- The row of an opcode byte (30_encoding R118 to R120). -/
def opcodeRow (op : Byte) : Option Row := fieldLookup [quadrant0, quadrant1, quadrant2, quadrant3] op

/-- The instruction of a CB-opcode byte (30_encoding R121). -/
def cbRow (op2 : Byte) : Option Instr := fieldLookup [cbQuadrant0, cbQuadrant1, cbQuadrant2, cbQuadrant3] op2

/-- Why a byte list is no instruction. -/
inductive Reject where
  /-- The list is empty. -/
  | noBytes
  /-- The opcode is there, an operand byte of it is not (30_encoding R100). -/
  | operandMissing (opcode : Byte)
  /-- The decoder's defined last arm, which no byte reaches (30_encoding R114, 45_system R297). -/
  | unknownOpcode (opcode : Byte)
  deriving DecidableEq, Repr

/-- The instruction at the head of a byte list and the bytes after it: the opcode, then its operand bytes, low byte
first (30_encoding R100, R103). A `CB` byte with no byte after it is the lone prefix (45_system R295). -/
def decode : List Byte → Except Reject (Instr × List Byte)
  | [] => .error .noBytes
  | op :: rest =>
    match opcodeRow op with
    | none => .error (.unknownOpcode op)
    | some (.op i) => .ok (i, rest)
    | some (.byte f) =>
      match rest with
      | n :: rest' => .ok (f n, rest')
      | [] => .error (.operandMissing op)
    | some (.word f) =>
      match rest with
      | l :: h :: rest' => .ok (f (wordOf h l), rest')
      | _ => .error (.operandMissing op)
    | some .cb =>
      match rest with
      | [] => .ok (.prefix_CB, [])
      | op2 :: rest' =>
        match cbRow op2 with
        | some i => .ok (i, rest')
        | none => .error (.unknownOpcode op2)

/-- The bytes of an instruction (30_encoding R100, R103, R118 to R121; opcode_table.json's `encoding`). -/
def encode : Instr → List Byte
  | .nop => [0x00] | .ld_BC_n16 n => [0x01, loByte n, hiByte n] | .ld_mBC_A => [0x02] | .inc_BC => [0x03]
  | .inc_B => [0x04] | .dec_B => [0x05] | .ld_B_n8 n => [0x06, n] | .rlca => [0x07]
  | .ld_ma16_SP a => [0x08, loByte a, hiByte a] | .add_HL_BC => [0x09] | .ld_A_mBC => [0x0A] | .dec_BC => [0x0B]
  | .inc_C => [0x0C] | .dec_C => [0x0D] | .ld_C_n8 n => [0x0E, n] | .rrca => [0x0F] | .stop pad => [0x10, pad]
  | .ld_DE_n16 n => [0x11, loByte n, hiByte n] | .ld_mDE_A => [0x12] | .inc_DE => [0x13] | .inc_D => [0x14]
  | .dec_D => [0x15] | .ld_D_n8 n => [0x16, n] | .rla => [0x17] | .jr_e8 e => [0x18, e] | .add_HL_DE => [0x19]
  | .ld_A_mDE => [0x1A] | .dec_DE => [0x1B] | .inc_E => [0x1C] | .dec_E => [0x1D] | .ld_E_n8 n => [0x1E, n]
  | .rra => [0x1F] | .jr_NZ_e8 e => [0x20, e] | .ld_HL_n16 n => [0x21, loByte n, hiByte n] | .ld_mHLi_A => [0x22]
  | .inc_HL => [0x23] | .inc_H => [0x24] | .dec_H => [0x25] | .ld_H_n8 n => [0x26, n] | .daa => [0x27]
  | .jr_Z_e8 e => [0x28, e] | .add_HL_HL => [0x29] | .ld_A_mHLi => [0x2A] | .dec_HL => [0x2B] | .inc_L => [0x2C]
  | .dec_L => [0x2D] | .ld_L_n8 n => [0x2E, n] | .cpl => [0x2F] | .jr_NC_e8 e => [0x30, e]
  | .ld_SP_n16 n => [0x31, loByte n, hiByte n] | .ld_mHLd_A => [0x32] | .inc_SP => [0x33] | .inc_mHL => [0x34]
  | .dec_mHL => [0x35] | .ld_mHL_n8 n => [0x36, n] | .scf => [0x37] | .jr_C_e8 e => [0x38, e] | .add_HL_SP => [0x39]
  | .ld_A_mHLd => [0x3A] | .dec_SP => [0x3B] | .inc_A => [0x3C] | .dec_A => [0x3D] | .ld_A_n8 n => [0x3E, n]
  | .ccf => [0x3F] | .ld_B_B => [0x40] | .ld_B_C => [0x41] | .ld_B_D => [0x42] | .ld_B_E => [0x43]
  | .ld_B_H => [0x44] | .ld_B_L => [0x45] | .ld_B_mHL => [0x46] | .ld_B_A => [0x47] | .ld_C_B => [0x48]
  | .ld_C_C => [0x49] | .ld_C_D => [0x4A] | .ld_C_E => [0x4B] | .ld_C_H => [0x4C] | .ld_C_L => [0x4D]
  | .ld_C_mHL => [0x4E] | .ld_C_A => [0x4F] | .ld_D_B => [0x50] | .ld_D_C => [0x51] | .ld_D_D => [0x52]
  | .ld_D_E => [0x53] | .ld_D_H => [0x54] | .ld_D_L => [0x55] | .ld_D_mHL => [0x56] | .ld_D_A => [0x57]
  | .ld_E_B => [0x58] | .ld_E_C => [0x59] | .ld_E_D => [0x5A] | .ld_E_E => [0x5B] | .ld_E_H => [0x5C]
  | .ld_E_L => [0x5D] | .ld_E_mHL => [0x5E] | .ld_E_A => [0x5F] | .ld_H_B => [0x60] | .ld_H_C => [0x61]
  | .ld_H_D => [0x62] | .ld_H_E => [0x63] | .ld_H_H => [0x64] | .ld_H_L => [0x65] | .ld_H_mHL => [0x66]
  | .ld_H_A => [0x67] | .ld_L_B => [0x68] | .ld_L_C => [0x69] | .ld_L_D => [0x6A] | .ld_L_E => [0x6B]
  | .ld_L_H => [0x6C] | .ld_L_L => [0x6D] | .ld_L_mHL => [0x6E] | .ld_L_A => [0x6F] | .ld_mHL_B => [0x70]
  | .ld_mHL_C => [0x71] | .ld_mHL_D => [0x72] | .ld_mHL_E => [0x73] | .ld_mHL_H => [0x74] | .ld_mHL_L => [0x75]
  | .halt => [0x76] | .ld_mHL_A => [0x77] | .ld_A_B => [0x78] | .ld_A_C => [0x79] | .ld_A_D => [0x7A]
  | .ld_A_E => [0x7B] | .ld_A_H => [0x7C] | .ld_A_L => [0x7D] | .ld_A_mHL => [0x7E] | .ld_A_A => [0x7F]
  | .add_A_B => [0x80] | .add_A_C => [0x81] | .add_A_D => [0x82] | .add_A_E => [0x83] | .add_A_H => [0x84]
  | .add_A_L => [0x85] | .add_A_mHL => [0x86] | .add_A_A => [0x87] | .adc_A_B => [0x88] | .adc_A_C => [0x89]
  | .adc_A_D => [0x8A] | .adc_A_E => [0x8B] | .adc_A_H => [0x8C] | .adc_A_L => [0x8D] | .adc_A_mHL => [0x8E]
  | .adc_A_A => [0x8F] | .sub_B => [0x90] | .sub_C => [0x91] | .sub_D => [0x92] | .sub_E => [0x93] | .sub_H => [0x94]
  | .sub_L => [0x95] | .sub_mHL => [0x96] | .sub_A => [0x97] | .sbc_A_B => [0x98] | .sbc_A_C => [0x99]
  | .sbc_A_D => [0x9A] | .sbc_A_E => [0x9B] | .sbc_A_H => [0x9C] | .sbc_A_L => [0x9D] | .sbc_A_mHL => [0x9E]
  | .sbc_A_A => [0x9F] | .and_B => [0xA0] | .and_C => [0xA1] | .and_D => [0xA2] | .and_E => [0xA3] | .and_H => [0xA4]
  | .and_L => [0xA5] | .and_mHL => [0xA6] | .and_A => [0xA7] | .xor_B => [0xA8] | .xor_C => [0xA9] | .xor_D => [0xAA]
  | .xor_E => [0xAB] | .xor_H => [0xAC] | .xor_L => [0xAD] | .xor_mHL => [0xAE] | .xor_A => [0xAF] | .or_B => [0xB0]
  | .or_C => [0xB1] | .or_D => [0xB2] | .or_E => [0xB3] | .or_H => [0xB4] | .or_L => [0xB5] | .or_mHL => [0xB6]
  | .or_A => [0xB7] | .cp_B => [0xB8] | .cp_C => [0xB9] | .cp_D => [0xBA] | .cp_E => [0xBB] | .cp_H => [0xBC]
  | .cp_L => [0xBD] | .cp_mHL => [0xBE] | .cp_A => [0xBF] | .ret_NZ => [0xC0] | .pop_BC => [0xC1]
  | .jp_NZ_a16 a => [0xC2, loByte a, hiByte a] | .jp_a16 a => [0xC3, loByte a, hiByte a]
  | .call_NZ_a16 a => [0xC4, loByte a, hiByte a] | .push_BC => [0xC5] | .add_A_n8 n => [0xC6, n] | .rst_00H => [0xC7]
  | .ret_Z => [0xC8] | .ret => [0xC9] | .jp_Z_a16 a => [0xCA, loByte a, hiByte a] | .prefix_CB => [0xCB]
  | .call_Z_a16 a => [0xCC, loByte a, hiByte a] | .call_a16 a => [0xCD, loByte a, hiByte a]
  | .adc_A_n8 n => [0xCE, n] | .rst_08H => [0xCF] | .ret_NC => [0xD0] | .pop_DE => [0xD1]
  | .jp_NC_a16 a => [0xD2, loByte a, hiByte a] | .illegal_D3 => [0xD3] | .call_NC_a16 a => [0xD4, loByte a, hiByte a]
  | .push_DE => [0xD5] | .sub_n8 n => [0xD6, n] | .rst_10H => [0xD7] | .ret_C => [0xD8] | .reti => [0xD9]
  | .jp_C_a16 a => [0xDA, loByte a, hiByte a] | .illegal_DB => [0xDB] | .call_C_a16 a => [0xDC, loByte a, hiByte a]
  | .illegal_DD => [0xDD] | .sbc_A_n8 n => [0xDE, n] | .rst_18H => [0xDF] | .ldh_ma8_A a => [0xE0, a]
  | .pop_HL => [0xE1] | .ldh_mC_A => [0xE2] | .illegal_E3 => [0xE3] | .illegal_E4 => [0xE4] | .push_HL => [0xE5]
  | .and_n8 n => [0xE6, n] | .rst_20H => [0xE7] | .add_SP_e8 e => [0xE8, e] | .jp_HL => [0xE9]
  | .ld_ma16_A a => [0xEA, loByte a, hiByte a] | .illegal_EB => [0xEB] | .illegal_EC => [0xEC]
  | .illegal_ED => [0xED] | .xor_n8 n => [0xEE, n] | .rst_28H => [0xEF] | .ldh_A_ma8 a => [0xF0, a]
  | .pop_AF => [0xF1] | .ldh_A_mC => [0xF2] | .di => [0xF3] | .illegal_F4 => [0xF4] | .push_AF => [0xF5]
  | .or_n8 n => [0xF6, n] | .rst_30H => [0xF7] | .ld_HL_SPe8 e => [0xF8, e] | .ld_SP_HL => [0xF9]
  | .ld_A_ma16 a => [0xFA, loByte a, hiByte a] | .ei => [0xFB] | .illegal_FC => [0xFC] | .illegal_FD => [0xFD]
  | .cp_n8 n => [0xFE, n] | .rst_38H => [0xFF] | .rlc_B => [0xCB, 0x00] | .rlc_C => [0xCB, 0x01]
  | .rlc_D => [0xCB, 0x02] | .rlc_E => [0xCB, 0x03] | .rlc_H => [0xCB, 0x04] | .rlc_L => [0xCB, 0x05]
  | .rlc_mHL => [0xCB, 0x06] | .rlc_A => [0xCB, 0x07] | .rrc_B => [0xCB, 0x08] | .rrc_C => [0xCB, 0x09]
  | .rrc_D => [0xCB, 0x0A] | .rrc_E => [0xCB, 0x0B] | .rrc_H => [0xCB, 0x0C] | .rrc_L => [0xCB, 0x0D]
  | .rrc_mHL => [0xCB, 0x0E] | .rrc_A => [0xCB, 0x0F] | .rl_B => [0xCB, 0x10] | .rl_C => [0xCB, 0x11]
  | .rl_D => [0xCB, 0x12] | .rl_E => [0xCB, 0x13] | .rl_H => [0xCB, 0x14] | .rl_L => [0xCB, 0x15]
  | .rl_mHL => [0xCB, 0x16] | .rl_A => [0xCB, 0x17] | .rr_B => [0xCB, 0x18] | .rr_C => [0xCB, 0x19]
  | .rr_D => [0xCB, 0x1A] | .rr_E => [0xCB, 0x1B] | .rr_H => [0xCB, 0x1C] | .rr_L => [0xCB, 0x1D]
  | .rr_mHL => [0xCB, 0x1E] | .rr_A => [0xCB, 0x1F] | .sla_B => [0xCB, 0x20] | .sla_C => [0xCB, 0x21]
  | .sla_D => [0xCB, 0x22] | .sla_E => [0xCB, 0x23] | .sla_H => [0xCB, 0x24] | .sla_L => [0xCB, 0x25]
  | .sla_mHL => [0xCB, 0x26] | .sla_A => [0xCB, 0x27] | .sra_B => [0xCB, 0x28] | .sra_C => [0xCB, 0x29]
  | .sra_D => [0xCB, 0x2A] | .sra_E => [0xCB, 0x2B] | .sra_H => [0xCB, 0x2C] | .sra_L => [0xCB, 0x2D]
  | .sra_mHL => [0xCB, 0x2E] | .sra_A => [0xCB, 0x2F] | .swap_B => [0xCB, 0x30] | .swap_C => [0xCB, 0x31]
  | .swap_D => [0xCB, 0x32] | .swap_E => [0xCB, 0x33] | .swap_H => [0xCB, 0x34] | .swap_L => [0xCB, 0x35]
  | .swap_mHL => [0xCB, 0x36] | .swap_A => [0xCB, 0x37] | .srl_B => [0xCB, 0x38] | .srl_C => [0xCB, 0x39]
  | .srl_D => [0xCB, 0x3A] | .srl_E => [0xCB, 0x3B] | .srl_H => [0xCB, 0x3C] | .srl_L => [0xCB, 0x3D]
  | .srl_mHL => [0xCB, 0x3E] | .srl_A => [0xCB, 0x3F] | .bit_0_B => [0xCB, 0x40] | .bit_0_C => [0xCB, 0x41]
  | .bit_0_D => [0xCB, 0x42] | .bit_0_E => [0xCB, 0x43] | .bit_0_H => [0xCB, 0x44] | .bit_0_L => [0xCB, 0x45]
  | .bit_0_mHL => [0xCB, 0x46] | .bit_0_A => [0xCB, 0x47] | .bit_1_B => [0xCB, 0x48] | .bit_1_C => [0xCB, 0x49]
  | .bit_1_D => [0xCB, 0x4A] | .bit_1_E => [0xCB, 0x4B] | .bit_1_H => [0xCB, 0x4C] | .bit_1_L => [0xCB, 0x4D]
  | .bit_1_mHL => [0xCB, 0x4E] | .bit_1_A => [0xCB, 0x4F] | .bit_2_B => [0xCB, 0x50] | .bit_2_C => [0xCB, 0x51]
  | .bit_2_D => [0xCB, 0x52] | .bit_2_E => [0xCB, 0x53] | .bit_2_H => [0xCB, 0x54] | .bit_2_L => [0xCB, 0x55]
  | .bit_2_mHL => [0xCB, 0x56] | .bit_2_A => [0xCB, 0x57] | .bit_3_B => [0xCB, 0x58] | .bit_3_C => [0xCB, 0x59]
  | .bit_3_D => [0xCB, 0x5A] | .bit_3_E => [0xCB, 0x5B] | .bit_3_H => [0xCB, 0x5C] | .bit_3_L => [0xCB, 0x5D]
  | .bit_3_mHL => [0xCB, 0x5E] | .bit_3_A => [0xCB, 0x5F] | .bit_4_B => [0xCB, 0x60] | .bit_4_C => [0xCB, 0x61]
  | .bit_4_D => [0xCB, 0x62] | .bit_4_E => [0xCB, 0x63] | .bit_4_H => [0xCB, 0x64] | .bit_4_L => [0xCB, 0x65]
  | .bit_4_mHL => [0xCB, 0x66] | .bit_4_A => [0xCB, 0x67] | .bit_5_B => [0xCB, 0x68] | .bit_5_C => [0xCB, 0x69]
  | .bit_5_D => [0xCB, 0x6A] | .bit_5_E => [0xCB, 0x6B] | .bit_5_H => [0xCB, 0x6C] | .bit_5_L => [0xCB, 0x6D]
  | .bit_5_mHL => [0xCB, 0x6E] | .bit_5_A => [0xCB, 0x6F] | .bit_6_B => [0xCB, 0x70] | .bit_6_C => [0xCB, 0x71]
  | .bit_6_D => [0xCB, 0x72] | .bit_6_E => [0xCB, 0x73] | .bit_6_H => [0xCB, 0x74] | .bit_6_L => [0xCB, 0x75]
  | .bit_6_mHL => [0xCB, 0x76] | .bit_6_A => [0xCB, 0x77] | .bit_7_B => [0xCB, 0x78] | .bit_7_C => [0xCB, 0x79]
  | .bit_7_D => [0xCB, 0x7A] | .bit_7_E => [0xCB, 0x7B] | .bit_7_H => [0xCB, 0x7C] | .bit_7_L => [0xCB, 0x7D]
  | .bit_7_mHL => [0xCB, 0x7E] | .bit_7_A => [0xCB, 0x7F] | .res_0_B => [0xCB, 0x80] | .res_0_C => [0xCB, 0x81]
  | .res_0_D => [0xCB, 0x82] | .res_0_E => [0xCB, 0x83] | .res_0_H => [0xCB, 0x84] | .res_0_L => [0xCB, 0x85]
  | .res_0_mHL => [0xCB, 0x86] | .res_0_A => [0xCB, 0x87] | .res_1_B => [0xCB, 0x88] | .res_1_C => [0xCB, 0x89]
  | .res_1_D => [0xCB, 0x8A] | .res_1_E => [0xCB, 0x8B] | .res_1_H => [0xCB, 0x8C] | .res_1_L => [0xCB, 0x8D]
  | .res_1_mHL => [0xCB, 0x8E] | .res_1_A => [0xCB, 0x8F] | .res_2_B => [0xCB, 0x90] | .res_2_C => [0xCB, 0x91]
  | .res_2_D => [0xCB, 0x92] | .res_2_E => [0xCB, 0x93] | .res_2_H => [0xCB, 0x94] | .res_2_L => [0xCB, 0x95]
  | .res_2_mHL => [0xCB, 0x96] | .res_2_A => [0xCB, 0x97] | .res_3_B => [0xCB, 0x98] | .res_3_C => [0xCB, 0x99]
  | .res_3_D => [0xCB, 0x9A] | .res_3_E => [0xCB, 0x9B] | .res_3_H => [0xCB, 0x9C] | .res_3_L => [0xCB, 0x9D]
  | .res_3_mHL => [0xCB, 0x9E] | .res_3_A => [0xCB, 0x9F] | .res_4_B => [0xCB, 0xA0] | .res_4_C => [0xCB, 0xA1]
  | .res_4_D => [0xCB, 0xA2] | .res_4_E => [0xCB, 0xA3] | .res_4_H => [0xCB, 0xA4] | .res_4_L => [0xCB, 0xA5]
  | .res_4_mHL => [0xCB, 0xA6] | .res_4_A => [0xCB, 0xA7] | .res_5_B => [0xCB, 0xA8] | .res_5_C => [0xCB, 0xA9]
  | .res_5_D => [0xCB, 0xAA] | .res_5_E => [0xCB, 0xAB] | .res_5_H => [0xCB, 0xAC] | .res_5_L => [0xCB, 0xAD]
  | .res_5_mHL => [0xCB, 0xAE] | .res_5_A => [0xCB, 0xAF] | .res_6_B => [0xCB, 0xB0] | .res_6_C => [0xCB, 0xB1]
  | .res_6_D => [0xCB, 0xB2] | .res_6_E => [0xCB, 0xB3] | .res_6_H => [0xCB, 0xB4] | .res_6_L => [0xCB, 0xB5]
  | .res_6_mHL => [0xCB, 0xB6] | .res_6_A => [0xCB, 0xB7] | .res_7_B => [0xCB, 0xB8] | .res_7_C => [0xCB, 0xB9]
  | .res_7_D => [0xCB, 0xBA] | .res_7_E => [0xCB, 0xBB] | .res_7_H => [0xCB, 0xBC] | .res_7_L => [0xCB, 0xBD]
  | .res_7_mHL => [0xCB, 0xBE] | .res_7_A => [0xCB, 0xBF] | .set_0_B => [0xCB, 0xC0] | .set_0_C => [0xCB, 0xC1]
  | .set_0_D => [0xCB, 0xC2] | .set_0_E => [0xCB, 0xC3] | .set_0_H => [0xCB, 0xC4] | .set_0_L => [0xCB, 0xC5]
  | .set_0_mHL => [0xCB, 0xC6] | .set_0_A => [0xCB, 0xC7] | .set_1_B => [0xCB, 0xC8] | .set_1_C => [0xCB, 0xC9]
  | .set_1_D => [0xCB, 0xCA] | .set_1_E => [0xCB, 0xCB] | .set_1_H => [0xCB, 0xCC] | .set_1_L => [0xCB, 0xCD]
  | .set_1_mHL => [0xCB, 0xCE] | .set_1_A => [0xCB, 0xCF] | .set_2_B => [0xCB, 0xD0] | .set_2_C => [0xCB, 0xD1]
  | .set_2_D => [0xCB, 0xD2] | .set_2_E => [0xCB, 0xD3] | .set_2_H => [0xCB, 0xD4] | .set_2_L => [0xCB, 0xD5]
  | .set_2_mHL => [0xCB, 0xD6] | .set_2_A => [0xCB, 0xD7] | .set_3_B => [0xCB, 0xD8] | .set_3_C => [0xCB, 0xD9]
  | .set_3_D => [0xCB, 0xDA] | .set_3_E => [0xCB, 0xDB] | .set_3_H => [0xCB, 0xDC] | .set_3_L => [0xCB, 0xDD]
  | .set_3_mHL => [0xCB, 0xDE] | .set_3_A => [0xCB, 0xDF] | .set_4_B => [0xCB, 0xE0] | .set_4_C => [0xCB, 0xE1]
  | .set_4_D => [0xCB, 0xE2] | .set_4_E => [0xCB, 0xE3] | .set_4_H => [0xCB, 0xE4] | .set_4_L => [0xCB, 0xE5]
  | .set_4_mHL => [0xCB, 0xE6] | .set_4_A => [0xCB, 0xE7] | .set_5_B => [0xCB, 0xE8] | .set_5_C => [0xCB, 0xE9]
  | .set_5_D => [0xCB, 0xEA] | .set_5_E => [0xCB, 0xEB] | .set_5_H => [0xCB, 0xEC] | .set_5_L => [0xCB, 0xED]
  | .set_5_mHL => [0xCB, 0xEE] | .set_5_A => [0xCB, 0xEF] | .set_6_B => [0xCB, 0xF0] | .set_6_C => [0xCB, 0xF1]
  | .set_6_D => [0xCB, 0xF2] | .set_6_E => [0xCB, 0xF3] | .set_6_H => [0xCB, 0xF4] | .set_6_L => [0xCB, 0xF5]
  | .set_6_mHL => [0xCB, 0xF6] | .set_6_A => [0xCB, 0xF7] | .set_7_B => [0xCB, 0xF8] | .set_7_C => [0xCB, 0xF9]
  | .set_7_D => [0xCB, 0xFA] | .set_7_E => [0xCB, 0xFB] | .set_7_H => [0xCB, 0xFC] | .set_7_L => [0xCB, 0xFD]
  | .set_7_mHL => [0xCB, 0xFE] | .set_7_A => [0xCB, 0xFF]

/-- The bytes of an instruction the opcode table numbers as `nbits` bits with value `w`, in the order the machine
fetches them. A row of one byte is the opcode, its operand bytes zero; the 16-bit rows are the CB page, and there the
table writes byte 0 in the high half (30_encoding section 5: "the 16-bit value `0xCBnn`, byte 0 in the high half");
any other longer word is read first byte lowest (notes/assumptions/7.md). -/
def tableBytes (nbits w : Nat) : List Byte :=
  if nbits = 16 ∧ w / 256 % 256 = 0xCB then [0xCB, BitVec.ofNat 8 w, 0]
  else [BitVec.ofNat 8 w, BitVec.ofNat 8 (w / 256), BitVec.ofNat 8 (w / 65536)]

/-- The instruction the decoder reads from a table row's word. The row `PREFIX_CB` (8 bits, 0xCB) is the lone prefix
byte, with no operand byte of its own to append (notes/assumptions/8.md). -/
def decodeTableWord (nbits w : Nat) : Option Instr :=
  match decode (if nbits = 8 ∧ w = 0xCB then [0xCB] else tableBytes nbits w) with
  | .ok (i, _) => some i
  | .error _ => none

end Sys2Proof
end

