-- ==== Sys2Proof/Config.lean ====
section
/-! DEFINITION. The launch parameters of 00_scope section 4: what the source leaves open and the spec
hands to the model as named arguments, each with the spec's default. The machine carries them in its state
(`State.cfg`), no step changes them, so a statement about every state holds for every choice of them
(notes/assumptions/2.md). -/

namespace Sys2Proof

/-- `VRAM_ACCESS_MODE` (20_memory R65, 92_eei D14): whether the CPU is kept from VRAM in mode 3. -/
inductive VramAccessMode where
  | vramOpen
  | vramMode3Blocked
  deriving DecidableEq, Repr

/-- `Mapper` (20_memory R56, 92_eei D17): the cartridge-side logic, four total functions and a state of its own. The
no-mapper instance is the one the spec defines. What another mapper does is out of its scope (00_scope section 3): the
mapper numbered `id` has the four free functions below, of which nothing is known (notes/assumptions/14.md). -/
inductive Mapper where
  | noMapper
  | external (id : Nat)
  deriving DecidableEq, Repr

/-- A mapper's own state, as plain data of any shape and size (20_memory R56). -/
abbrev MapperState := List Nat

/-- `ReadRom(addr)` of a mapper in its state; `none`: the address is out of physical bounds (20_memory R54, R56). A read
has no side effect (R50). Free: no value of it is known. -/
opaque Config.mapperReadRom : Nat → MapperState → Word → Option Byte

/-- `WriteRom(addr, value)`: the mapper's next state; `none`: out of physical bounds (20_memory R52, R56). Free. -/
opaque Config.mapperWriteRom : Nat → MapperState → Word → Byte → Option MapperState

/-- `ReadRam(addr)`; `none`: out of physical bounds (20_memory R54, R56). Free. -/
opaque Config.mapperReadRam : Nat → MapperState → Word → Option Byte

/-- `WriteRam(addr, value)`: the mapper's next state; `none`: out of physical bounds (20_memory R54, R56). Free. -/
opaque Config.mapperWriteRam : Nat → MapperState → Word → Byte → Option MapperState

/-- The named parameters of 00_scope section 4 (`Buttons`, the host's input, stands in the state itself). -/
structure Config where
  /-- `HALT_WAKE_CYCLES` (D3). -/
  haltWakeCycles : Nat
  /-- `ILLEGAL_OPCODES` (D6): the unassigned opcode bytes that act as 4-cycle no-ops (30_encoding R113). An assigned byte
  in it has no effect (DESIGN CHOICE, notes/assumptions/21.md). -/
  illegalOpcodes : List Byte
  /-- `TIMA_RELOAD_DELAY` (D10). -/
  timaReloadDelay : Nat
  /-- `TIMA_WRITE_CANCELS_RELOAD` (D11). -/
  timaWriteCancelsReload : Bool
  /-- `DMA_BUSY_CYCLES` (D12). -/
  dmaBusyCycles : Nat
  /-- `VRAM_ACCESS_MODE` (D14). -/
  vramAccessMode : VramAccessMode
  /-- `SPRITE_DRAW_PENALTY` (D18). -/
  spriteDrawPenalty : Nat
  /-- `LCDC_GATES_BG_OBJ` (D20). -/
  lcdcGatesBgObj : Bool
  /-- `Mapper` (D17). -/
  mapper : Mapper
  deriving DecidableEq, Repr

/-- The default of every parameter (00_scope section 4; the illegal opcodes are 30_encoding R113). -/
def Config.default : Config where
  haltWakeCycles := 4
  illegalOpcodes := [0xD3, 0xDB, 0xDD, 0xE3, 0xE4, 0xEB, 0xEC, 0xED, 0xF4, 0xFC, 0xFD]
  timaReloadDelay := 1
  timaWriteCancelsReload := true
  dmaBusyCycles := 160
  vramAccessMode := .vramOpen
  spriteDrawPenalty := 6
  lcdcGatesBgObj := true
  mapper := .noMapper

end Sys2Proof
end

