-- ==== Sys2Proof/Machine/State.lean ====
section
/-! DEFINITION. The state of the machine as plain data: everything 10_state.md lists, the launch parameters
(Config.lean) and the model's own bookkeeping (INVENTORY.md, `## State`); the reasons a step can stop; and the state
right after power-on (70_reset R400 to R409). -/

namespace Sys2Proof.Machine

/-- The four flags, bits 7..4 of `F` (10_state R13). "F's low 4 bits always read/write as 0" (R12): they have no storage. -/
structure Flags where
  z : Bool
  n : Bool
  h : Bool
  c : Bool
  deriving DecidableEq, Repr

/-- The CPU register file (10_state R10); `F` is `flags`. -/
structure Regs where
  a : Byte
  flags : Flags
  b : Byte
  c : Byte
  d : Byte
  e : Byte
  h : Byte
  l : Byte
  sp : Word
  pc : Word
  deriving DecidableEq, Repr

/-- The CPU control flip-flops, D00's `CpuState` (10_state R16 to R20). -/
structure CpuState where
  ime : Bool
  halted : Bool
  haltBug : Bool
  stopped : Bool
  eiPending : Bool
  deriving DecidableEq, Repr

/-- The timer (10_state R22, 60_exceptions R340). -/
structure TimerState where
  systemCounter : Word
  tima : Byte
  tma : Byte
  tac : BitVec 3
  overflowPending : Bool
  overflowDelay : Nat
  deriving DecidableEq, Repr

/-- The PPU modes (10_state R23): mode 0, 1, 2, 3 in the order of the spec's numbering is `hBlank`, `vBlank`,
`oamScan`, `drawing`. -/
inductive Mode where
  | hBlank
  | vBlank
  | oamScan
  | drawing
  deriving DecidableEq, Repr

/-- The PPU's timing state (10_state R23). -/
structure PpuState where
  mode : Mode
  cyclesRemaining : Nat
  drawLen : Nat
  windowLine : Byte
  deriving DecidableEq, Repr

/-- The LCD registers (10_state R24). -/
structure LcdRegs where
  lcdc : Byte
  stat : Byte
  scy : Byte
  scx : Byte
  ly : Byte
  lyc : Byte
  dma : Byte
  bgp : Byte
  obp0 : Byte
  obp1 : Byte
  wy : Byte
  wx : Byte
  deriving DecidableEq, Repr

/-- The eight buttons (60_exceptions R380): the direction group, then the action group. -/
inductive Button where
  | right | left | up | down
  | a | b | select | start
  deriving DecidableEq, Repr

/-- `Buttons`, the host's input: which are pressed (10_state R27). -/
structure Buttons where
  right : Bool
  left : Bool
  up : Bool
  down : Bool
  a : Bool
  b : Bool
  select : Bool
  start : Bool
  deriving DecidableEq, Repr

/-- One call `SetButton(button, pressed)` of the host (60_exceptions R381). -/
structure ButtonEvent where
  button : Button
  pressed : Bool
  deriving DecidableEq, Repr

/-- The bytes that have storage, as (address, byte) cells: addresses strictly rising, no byte 0x00
(`Memory.wf`, Machine/Memory.lean); an unlisted byte reads 0x00 (70_reset R407, notes/assumptions/4.md). -/
abbrev Memory := List Host.Cell

/-- One line of the frame buffer: 160 shades (10_state R25). -/
abbrev Line := List (BitVec 2)

/-- The frame buffer as (line number, line) entries, line numbers strictly rising, no blank line; an unlisted line
is all 0 (10_state R25, 70_reset R405, notes/assumptions/16.md). -/
abbrev FrameBuffer := List (Nat × Line)

/-- The machine's state. -/
structure State where
  /-- The launch parameters; no step changes them (00_scope section 4). -/
  cfg : Config
  /-- The CPU registers. -/
  regs : Regs
  /-- The CPU control flip-flops. -/
  ctl : CpuState
  /-- `IE` at 0xFFFF, 8 bits stored (60_exceptions R311). -/
  ie : Byte
  /-- `IF` at 0xFF0F, 5 bits stored (60_exceptions R312). -/
  iflag : BitVec 5
  /-- The timer. -/
  timer : TimerState
  /-- The PPU's timing state. -/
  ppu : PpuState
  /-- The LCD registers. -/
  lcd : LcdRegs
  /-- The DMA busy window's down-counter (10_state R26). -/
  dmaBusy : Nat
  /-- The joypad select bits, bits 5..4 of 0xFF00 (10_state R27). -/
  joySel : BitVec 2
  /-- The buttons as the host left them. -/
  buttons : Buttons
  /-- SB at 0xFF01, a stored byte (20_memory R73). -/
  sb : Byte
  /-- SC at 0xFF02, a stored byte (20_memory R73). -/
  sc : Byte
  /-- The no-mapper's ROM image, VRAM, work RAM, OAM, unnamed I/O bytes and high RAM (10_state R28). -/
  mem : Memory
  /-- Another mapper's own state: its ROM, cartridge RAM and registers (20_memory R56, 10_state R30). -/
  mapperState : MapperState
  /-- The frame buffer (10_state R25). -/
  fb : FrameBuffer
  /-- How often `FrameReady` fired (60_exceptions R377). -/
  frameCount : Nat
  /-- The host's future `SetButton` calls: the head is what it does before the next system step (92_eei D26). -/
  inputs : List (List ButtonEvent)
  /-- The T-cycles the last `Step()` returned (00_scope section 6.3). -/
  cycles : Nat
  deriving DecidableEq, Repr

/-- Why the machine stops for good. -/
inductive Fault where
  /-- Raised by the meaning of an opcode of the eleven of 30_encoding R113 that `ILLEGAL_OPCODES` does not hold, and by
  the fetch's unreachable last arm: "a fatal emulation error ... log opcode+PC and abort" (45_system R297). Safe: the
  spec's own machine stops there too. -/
  | fatalUnknownOpcode (opcode : Byte) (pc : Word)
  deriving DecidableEq, Repr

/-- Why an instruction has no meaning in the model. -/
inductive Refusal where
  /-- Raised by `exec`'s arm of an instruction that is not modelled yet. Safe: the model stops where the hardware goes on. -/
  | notModelled (mnemonic : String)
  deriving DecidableEq, Repr

/-- The machine right after power-on (70_reset R401 to R409, and the facts of R410: `IME` 0, `IF` bit 0 set, `SP` at the top
of high RAM, LCD on, timer off), with the default launch parameters, no program image (notes/assumptions/3.md), no mapper
state (notes/assumptions/14.md) and the model's own fields at 0 and empty (notes/assumptions/1.md). -/
def State.reset : State where
  cfg := Config.default
  regs := { a := 0x01, flags := { z := true, n := false, h := true, c := true }, b := 0x00, c := 0x13, d := 0x00, e := 0xD8, h := 0x01, l := 0x4D, sp := 0xFFFE, pc := 0x0100 }
  ctl := { ime := false, halted := false, haltBug := false, stopped := false, eiPending := false }
  ie := 0x00
  iflag := 0b00001
  timer := { systemCounter := 0xABCC, tima := 0x00, tma := 0x00, tac := 0b000, overflowPending := false, overflowDelay := 0 }
  ppu := { mode := .oamScan, cyclesRemaining := 80, drawLen := 172, windowLine := 0x00 }
  lcd := { lcdc := 0x91, stat := 0x86, scy := 0x00, scx := 0x00, ly := 0x00, lyc := 0x00, dma := 0xFF, bgp := 0xFC, obp0 := 0xFF, obp1 := 0xFF, wy := 0x00, wx := 0x00 }
  dmaBusy := 0
  joySel := 0b00
  buttons := { right := false, left := false, up := false, down := false, a := false, b := false, select := false, start := false }
  sb := 0x00
  sc := 0x00
  mem := []
  mapperState := []
  fb := []
  frameCount := 0
  inputs := []
  cycles := 0

end Sys2Proof.Machine
end

