-- ==== Sys2Proof/Machine/Memory.lean ====
section
/-! DEFINITION. Storage by number: a sparse list of (number, value) entries with a default for what it does not
list, used for the machine's bytes and for the lines of the frame buffer; and which addresses of the address space have
a byte of storage there (10_state R28). -/

namespace Sys2Proof.Machine

/-- What a sparse list holds at `k`; `dflt` where it lists nothing. -/
def Sparse.read {α : Type} (dflt : α) : List (Nat × α) → Nat → α
  | [], _ => dflt
  | (j, v) :: m, k => if j = k then v else Sparse.read dflt m k

/-- Put the entry `(k, v)` before the first entry with a greater number. -/
def Sparse.insert {α : Type} (k : Nat) (v : α) : List (Nat × α) → List (Nat × α)
  | [] => [(k, v)]
  | (j, w) :: m => if k < j then (k, v) :: (j, w) :: m else (j, w) :: Sparse.insert k v m

/-- Store `v` at `k`: the old entry goes, the new one is listed unless it is what an unlisted number reads as. -/
def Sparse.write {α : Type} [DecidableEq α] (dflt : α) (m : List (Nat × α)) (k : Nat) (v : α) : List (Nat × α) :=
  let rest := m.filter (fun e => decide (e.1 ≠ k))
  if v = dflt then rest else Sparse.insert k v rest

/-- The canonical form: numbers strictly rising, no entry equal to the default. -/
abbrev Sparse.wf {α : Type} [DecidableEq α] (dflt : α) (m : List (Nat × α)) : Prop :=
  m.Pairwise (fun e f => e.1 < f.1) ∧ ∀ e ∈ m, e.2 ≠ dflt

/-- What a byte that nothing has written reads as: RAM is 0x00 after reset (70_reset R407), a ROM image is padded with
0x00 (20_memory R56) (notes/assumptions/4.md). -/
def Memory.unlisted : Byte := 0x00

/-- The byte stored at an address. -/
def Memory.read (m : Memory) (a : Nat) : Byte := Sparse.read Memory.unlisted m a

/-- Store a byte at an address. -/
def Memory.write (m : Memory) (a : Nat) (v : Byte) : Memory := Sparse.write Memory.unlisted m a v

/-- The canonical form of memory. -/
abbrev Memory.wf (m : Memory) : Prop := Sparse.wf Memory.unlisted m

/-- A line of shade 0 (70_reset R405). -/
def blankLine : Line := List.replicate 160 0

/-- The line `y` of the frame buffer (60_exceptions R374). -/
def FrameBuffer.line (fb : FrameBuffer) (y : Nat) : Line := Sparse.read blankLine fb y

/-- Replace the line `y` of the frame buffer. -/
def FrameBuffer.setLine (fb : FrameBuffer) (y : Nat) (l : Line) : FrameBuffer := Sparse.write blankLine fb y l

/-- `GetPixel(x, y)` of the frame buffer interface (60_exceptions R374). -/
def FrameBuffer.getPixel (fb : FrameBuffer) (x y : Nat) : BitVec 2 := (fb.line y).getD x 0

/-- `SetPixel(x, y, shade)` of the frame buffer interface (60_exceptions R374); a cell outside 160 x 144 does not exist. -/
def FrameBuffer.setPixel (fb : FrameBuffer) (x y : Nat) (shade : BitVec 2) : FrameBuffer :=
  if y < 144 then fb.setLine y ((fb.line y).set x shade) else fb

/-- The canonical form of the frame buffer: entries of 160 cells for lines 0..143. -/
abbrev FrameBuffer.wf (fb : FrameBuffer) : Prop :=
  Sparse.wf blankLine fb ∧ ∀ e ∈ fb, e.1 < 144 ∧ e.2.length = 160

end Sys2Proof.Machine
end

