-- ==== Sys2Proof/Machine/Interrupts.lean ====
section
/-! DEFINITION. The interrupt controller: two registers and three functions (60_exceptions R311 to R317). -/

namespace Sys2Proof.Machine

/-- `RequestInterrupt(id)`: set the `IF` bit (60_exceptions R313); an id outside 0..4 cannot be written. -/
def State.requestInterrupt (id : Fin 5) (s : State) : State :=
  { s with iflag := s.iflag ||| (1#5 <<< id.val) }

/-- Request an interrupt when a condition holds (the `if ... then RequestInterrupt(id)` of R362, R363, R381). -/
def State.requestWhen (cond : Bool) (id : Fin 5) (s : State) : State :=
  if cond then s.requestInterrupt id else s

/-- `Pending()` = `IE & IF & 0x1F` (60_exceptions R314). -/
def State.pending (s : State) : BitVec 5 := s.ie.extractLsb' 0 5 &&& s.iflag

/-- `HighestPendingBit(bits)`: the lowest set bit, bit 0 the highest priority (60_exceptions R315). For no bit set the
spec defines nothing and nothing asks. -/
def highestPendingBit (bits : BitVec 5) : Fin 5 :=
  if bits.getLsbD 0 then 0
  else if bits.getLsbD 1 then 1
  else if bits.getLsbD 2 then 2
  else if bits.getLsbD 3 then 3
  else 4

/-- `Clear(b)` (60_exceptions R316). -/
def State.clearInterrupt (b : Fin 5) (s : State) : State :=
  { s with iflag := s.iflag &&& ~~~(1#5 <<< b.val) }

/-- The interrupt vector `0x0040 + 8*bit` (60_exceptions R317, 70_reset R410 item 2). -/
def interruptVector (b : Fin 5) : Word := BitVec.ofNat 16 (0x0040 + 8 * b.val)

end Sys2Proof.Machine
end

