-- ==== Sys2Proof/Machine/Joypad.lean ====
section
/-! DEFINITION. The joypad register and the host's `SetButton` calls (60_exceptions section 8). -/

namespace Sys2Proof.Machine

/-- Whether a button is pressed. -/
def Buttons.get (bs : Buttons) : Button → Bool
  | .right => bs.right
  | .left => bs.left
  | .up => bs.up
  | .down => bs.down
  | .a => bs.a
  | .b => bs.b
  | .select => bs.select
  | .start => bs.start

/-- The buttons with one of them pressed or released. -/
def Buttons.set (bs : Buttons) (p : Bool) : Button → Buttons
  | .right => { bs with right := p }
  | .left => { bs with left := p }
  | .up => { bs with up := p }
  | .down => { bs with down := p }
  | .a => { bs with a := p }
  | .b => { bs with b := p }
  | .select => { bs with select := p }
  | .start => { bs with start := p }

/-- `group_selected(button)`: the select line of the button's group is active (0) (60_exceptions R381). -/
def groupSelected (joySel : BitVec 2) : Button → Bool
  | .right | .left | .up | .down => !joySel.getLsbD 0
  | .a | .b | .select | .start => !joySel.getLsbD 1

/-- The active-low nibble of a group: bit `i` is 0 when the group is selected and its `i`-th button pressed. -/
def groupNibble (selected b0 b1 b2 b3 : Bool) : BitVec 4 :=
  if selected then BitVec.ofBool (!b3) ++ BitVec.ofBool (!b2) ++ BitVec.ofBool (!b1) ++ BitVec.ofBool (!b0) else 0xF

/-- A read of JOYP: `0xC0 | joySel << 4 | low`, so a group shows only when selected (60_exceptions R380, 70_reset R410 item 7). -/
def State.joypRead (s : State) : Byte :=
  let low := groupNibble (!s.joySel.getLsbD 0) s.buttons.right s.buttons.left s.buttons.up s.buttons.down &&&
    groupNibble (!s.joySel.getLsbD 1) s.buttons.a s.buttons.b s.buttons.select s.buttons.start
  0xC0 ||| (s.joySel.setWidth 8 <<< 4) ||| low.setWidth 8

/-- `SetButton(button, pressed)`: a press edge of a button whose group is selected requests interrupt 4
(60_exceptions R381). -/
def State.setButton (ev : ButtonEvent) (s : State) : State :=
  State.requestWhen (ev.pressed && !s.buttons.get ev.button && groupSelected s.joySel ev.button) 4
    { s with buttons := s.buttons.set ev.pressed ev.button }

end Sys2Proof.Machine
end

