-- ==== Sys2Proof/Machine/Ppu.lean ====
section
/-! DEFINITION. The pixel-processing unit's mode machine: mode entries, the coincidence flag, sprite selection, the
LCD-disable and LCD-enable transitions (60_exceptions section 6). The renderers and the tick are in Render.lean. -/

namespace Sys2Proof.Machine

/-- The 2-bit number of a mode (10_state R23). -/
def Mode.code : Mode → BitVec 2
  | .hBlank => 0
  | .vBlank => 1
  | .oamScan => 2
  | .drawing => 3

/-- LCDC bit 7, LCD enable (10_state R24). -/
def State.lcdOn (s : State) : Bool := s.lcd.lcdc.getLsbD 7

/-- STAT with bits 1..0 the mode (60_exceptions R362). -/
def statWithMode (stat : Byte) (m : Mode) : Byte := (stat &&& 0xFC) ||| m.code.setWidth 8

/-- STAT with bit 2 the coincidence flag (60_exceptions R363). -/
def statWithCoincidence (stat : Byte) (eq : Bool) : Byte := (stat &&& 0xFB) ||| (if eq then 0x04 else 0x00)

/-- `EvalCoincidence()`: re-evaluate LY = LYC; interrupt 1 when it just became true and STAT bit 6 is set
(60_exceptions R363). -/
def State.evalCoincidence (s : State) : State :=
  let eq := decide (s.lcd.ly = s.lcd.lyc)
  State.requestWhen (eq && !s.lcd.stat.getLsbD 2 && s.lcd.stat.getLsbD 6) 1
    { s with lcd := { s.lcd with stat := statWithCoincidence s.lcd.stat eq } }

/-- Whether the entry to a mode requests the STAT interrupt: HBlank by STAT bit 3, VBlank by bit 4, OamScan by bit 5,
Drawing never (60_exceptions R362). -/
def entryStatInterrupt (stat : Byte) : Mode → Bool
  | .hBlank => stat.getLsbD 3
  | .vBlank => stat.getLsbD 4
  | .oamScan => stat.getLsbD 5
  | .drawing => false

/-- `EnterMode(m, d)` (60_exceptions R362). -/
def State.enterMode (m : Mode) (d : Nat) (s : State) : State :=
  State.evalCoincidence
    (State.requestWhen (entryStatInterrupt s.lcd.stat m) 1
      (State.requestWhen (decide (m = .vBlank)) 0
        { s with
          ppu := { s.ppu with mode := m, cyclesRemaining := d }
          lcd := { s.lcd with stat := statWithMode s.lcd.stat m } }))

/-- Set LY, as the PPU's own events do. -/
def State.setLy (v : Byte) (s : State) : State := { s with lcd := { s.lcd with ly := v } }

/-- Set the window line counter. -/
def State.setWindowLine (v : Byte) (s : State) : State := { s with ppu := { s.ppu with windowLine := v } }

/-- A byte of OAM as the PPU reads it, never blocked (60_exceptions R360): byte `j` of entry `i` (10_state R29). -/
def State.oamByte (s : State) (i j : Nat) : Byte := s.mem.read (0xFE00 + 4 * i + j)

/-- A byte of VRAM as the PPU reads it, by CPU address, never blocked (60_exceptions R360). -/
def State.vramByte (s : State) (a : Nat) : Byte := s.mem.read a

/-- Whether sprites are drawn: LCDC bit 1, unless LCDC_GATES_BG_OBJ is false (60_exceptions R371). -/
def State.objEnabled (s : State) : Bool := s.lcd.lcdc.getLsbD 1 || !s.cfg.lcdcGatesBgObj

/-- Whether background and window are drawn: LCDC bit 0, unless LCDC_GATES_BG_OBJ is false (60_exceptions R373). -/
def State.bgEnabled (s : State) : Bool := s.lcd.lcdc.getLsbD 0 || !s.cfg.lcdcGatesBgObj

/-- The height of a sprite: 16 lines with LCDC bit 2, else 8 (60_exceptions R371). -/
def State.spriteHeight (s : State) : Nat := if s.lcd.lcdc.getLsbD 2 then 16 else 8

/-- The top line of sprite `i`, `oam[4*i] - 16` (60_exceptions R371, 10_state R29). -/
def State.spriteTop (s : State) (i : Nat) : Int := (s.oamByte i 0).toNat - 16

/-- The left column of sprite `i`, `oam[4*i + 1] - 8` (60_exceptions R376, 10_state R29). -/
def State.spriteLeft (s : State) (i : Nat) : Int := (s.oamByte i 1).toNat - 8

/-- Whether sprite `i` covers line `ly` (60_exceptions R371). -/
def State.spriteCovers (s : State) (ly : Nat) (i : Nat) : Bool :=
  decide (s.spriteTop i ≤ ly ∧ (ly : Int) < s.spriteTop i + s.spriteHeight)

/-- `SelectSprites(ly)`: the first ten OAM entries whose lines cover `ly` (60_exceptions R371). -/
def State.selectSprites (s : State) (ly : Nat) : List Nat :=
  if s.objEnabled then ((List.range 40).filter (s.spriteCovers ly)).take 10 else []

/-- The LCD-disable transition, inside the write that clears LCDC bit 7; not a mode entry (60_exceptions R369,
70_reset R410 item 5). -/
def State.lcdDisable (s : State) : State :=
  { s with
    ppu := { s.ppu with mode := .hBlank }
    lcd := { s.lcd with ly := 0, stat := s.lcd.stat &&& 0xF8 } }

/-- The LCD-enable transition, inside the write that sets LCDC bit 7: an entry to OamScan (60_exceptions R370). -/
def State.lcdEnable (s : State) : State :=
  State.enterMode .oamScan 80 (State.setWindowLine 0 (State.setLy 0 s))

/-- A write to LCDC: all 8 bits stored, then the transition of a bit 7 edge (20_memory R71). -/
def State.writeLcdc (v : Byte) (s : State) : State :=
  let t := { s with lcd := { s.lcd with lcdc := v } }
  if s.lcdOn && !t.lcdOn then t.lcdDisable
  else if !s.lcdOn && t.lcdOn then t.lcdEnable
  else t

/-- A write to STAT: `(v & 0xF8) | (STAT & 0x07)` (20_memory R72). -/
def writeStat (stat v : Byte) : Byte := (v &&& 0xF8) ||| (stat &&& 0x07)

end Sys2Proof.Machine
end

