-- ==== Sys2Proof/Machine/Render.lean ====
section
/-! DEFINITION. The three renderers, the frame buffer line they write, and the PPU's tick (60_exceptions R361,
R366 to R368, R372 to R378). -/

namespace Sys2Proof.Machine

/-- A color id and the shade a palette gives it. -/
structure Pixel where
  id : BitVec 2
  shade : BitVec 2
  deriving DecidableEq, Repr

/-- `shade = (PAL >> (2*id)) & 3` (60_exceptions R378). -/
def paletteShade (pal : Byte) (id : BitVec 2) : BitVec 2 := pal.extractLsb' (2 * id.toNat) 2

/-- The address of a tile's first byte: `0x8000 + 16*idx` unsigned, `0x9000 + 16*signed8(idx)` otherwise
(60_exceptions R372). -/
def tileBase (unsignedMode : Bool) (idx : Byte) : Nat :=
  if unsignedMode then 0x8000 + 16 * idx.toNat else (0x9000 + 16 * idx.toInt).toNat

/-- `TilePixel(unsignedMode, idx, row, col)`: the color id from the two bitplanes (60_exceptions R372). -/
def State.tilePixel (s : State) (unsignedMode : Bool) (idx : Byte) (row col : Nat) : BitVec 2 :=
  let base := tileBase unsignedMode idx
  let lo := s.vramByte (base + 2 * row)
  let hi := s.vramByte (base + 2 * row + 1)
  BitVec.ofBool (hi.getLsbD (7 - col)) ++ BitVec.ofBool (lo.getLsbD (7 - col))

/-- The base address of a tile map: 0x9C00 when its LCDC bit is 1, else 0x9800 (60_exceptions R373, R375). -/
def tileMapBase (bit : Bool) : Nat := if bit then 0x9C00 else 0x9800

/-- The pixel at map coordinates `px`, `py` of the tile map at `map`, through BGP (60_exceptions R373, R375). -/
def State.mapPixel (s : State) (map px py : Nat) : Pixel :=
  let idx := s.vramByte (map + 32 * (py / 8) + px / 8)
  let id := s.tilePixel (s.lcd.lcdc.getLsbD 4) idx (py % 8) (px % 8)
  { id := id, shade := paletteShade s.lcd.bgp id }

/-- The background renderer at column `x` of line `ly` (60_exceptions R373). -/
def State.bgPixel (s : State) (ly x : Nat) : Pixel :=
  if s.bgEnabled then
    s.mapPixel (tileMapBase (s.lcd.lcdc.getLsbD 3)) ((s.lcd.scx.toNat + x) % 256) ((s.lcd.scy.toNat + ly) % 256)
  else { id := 0, shade := 0 }

/-- Whether the window draws on line `ly` (60_exceptions R375). -/
def State.windowDraws (s : State) (ly : Nat) : Bool :=
  s.bgEnabled && s.lcd.lcdc.getLsbD 5 && decide (s.lcd.wy.toNat ≤ ly) && decide (s.lcd.wx.toNat ≤ 166)

/-- Background and window at column `x` of line `ly`: the window replaces what it covers, from column `WX - 7` on, in
its own row `windowLine` (60_exceptions R375). -/
def State.bgWindowPixel (s : State) (ly x : Nat) : Pixel :=
  if s.windowDraws ly && decide (s.lcd.wx.toNat ≤ x + 7) then
    s.mapPixel (tileMapBase (s.lcd.lcdc.getLsbD 6)) (x + 7 - s.lcd.wx.toNat) s.ppu.windowLine.toNat
  else s.bgPixel ly x

/-- Insert a sprite into a list ordered by X, then by OAM index (60_exceptions R376). -/
def State.insertSprite (s : State) (i : Nat) : List Nat → List Nat
  | [] => [i]
  | j :: rest =>
    if (s.oamByte i 1).toNat < (s.oamByte j 1).toNat ∨ ((s.oamByte i 1).toNat = (s.oamByte j 1).toNat ∧ i < j) then
      i :: j :: rest
    else j :: s.insertSprite i rest

/-- The selected sprites in priority order: X ascending, then OAM index ascending (60_exceptions R376). -/
def State.spriteOrder (s : State) (ly : Nat) : List Nat :=
  (s.selectSprites ly).foldr (fun i acc => s.insertSprite i acc) []

/-- The color id of sprite `i` at column `x` of line `ly`, or 0 where it does not cover the column: flips, the tall
sprites' tile pair, unsigned tile addressing (60_exceptions R376). -/
def State.spriteId (s : State) (ly x i : Nat) : BitVec 2 :=
  let left := s.spriteLeft i
  if left ≤ x ∧ (x : Int) < left + 8 then
    let attr := s.oamByte i 3
    let row := ((ly : Int) - s.spriteTop i).toNat
    let row := if attr.getLsbD 6 then s.spriteHeight - 1 - row else row
    let col := ((x : Int) - left).toNat
    let col := if attr.getLsbD 5 then 7 - col else col
    let tile := if s.spriteHeight = 16 then s.oamByte i 2 &&& 0xFE else s.oamByte i 2
    s.tilePixel true tile row col
  else 0

/-- The sprite renderer at column `x` of line `ly` over the pixel `bg`: the first sprite in order with a non-zero id
decides; its bit 7 gives the column to a background pixel of non-zero id (60_exceptions R376). -/
def State.spriteShade (s : State) (ly x : Nat) (bg : Pixel) : List Nat → BitVec 2
  | [] => bg.shade
  | i :: rest =>
    let id := s.spriteId ly x i
    if id = 0 then s.spriteShade ly x bg rest
    else if (s.oamByte i 3).getLsbD 7 && decide (bg.id ≠ 0) then bg.shade
    else paletteShade (if (s.oamByte i 3).getLsbD 4 then s.lcd.obp1 else s.lcd.obp0) id

/-- The final shade at column `x` of line `ly` (60_exceptions R366: background, window, sprites, in that order). -/
def State.pixelShade (s : State) (ly x : Nat) : BitVec 2 :=
  s.spriteShade ly x (s.bgWindowPixel ly x) (s.spriteOrder ly)

/-- The 160 shades of line `ly` (60_exceptions R374). -/
def State.renderedLine (s : State) (ly : Nat) : Line :=
  let order := s.spriteOrder ly
  (List.range 160).map fun x => s.spriteShade ly x (s.bgWindowPixel ly x) order

/-- `RenderLine(ly)`: the frame buffer's line, and the window line counter where the window drew
(60_exceptions R366, R374, R375). -/
def State.renderLine (ly : Nat) (s : State) : State :=
  { s with
    fb := s.fb.setLine ly (s.renderedLine ly)
    ppu := { s.ppu with windowLine := if s.windowDraws ly then s.ppu.windowLine + 1 else s.ppu.windowLine } }

/-- The end of OamScan: choose the Drawing length from the selected sprites and enter Drawing (60_exceptions R365). -/
def State.endOamScan (s : State) : State :=
  let len := 172 + s.cfg.spriteDrawPenalty * (s.selectSprites s.lcd.ly.toNat).length
  State.enterMode .drawing len { s with ppu := { s.ppu with drawLen := len } }

/-- The end of Drawing: render the line, then enter HBlank for the rest of the 456 cycles (60_exceptions R366). -/
def State.endDrawing (s : State) : State :=
  State.enterMode .hBlank (456 - 80 - s.ppu.drawLen) (s.renderLine s.lcd.ly.toNat)

/-- The end of HBlank: on line 143 `FrameReady()` fires first, then VBlank is entered; else the next line's OamScan
(60_exceptions R367, R377). -/
def State.endHBlank (s : State) : State :=
  if s.lcd.ly = 143 then State.enterMode .vBlank 456 (State.setLy 144 { s with frameCount := s.frameCount + 1 })
  else State.enterMode .oamScan 80 (State.setLy (s.lcd.ly + 1) s)

/-- The end of a VBlank line: the wrap to line 0, or the next line, which is no mode entry but re-evaluates the
coincidence (60_exceptions R368). -/
def State.endVBlankLine (s : State) : State :=
  if s.lcd.ly = 153 then State.enterMode .oamScan 80 (State.setWindowLine 0 (State.setLy 0 s))
  else
    State.evalCoincidence
      (State.setLy (s.lcd.ly + 1) { s with ppu := { s.ppu with cyclesRemaining := 456 } })

/-- `PPU.Tick()` (60_exceptions R361). -/
def State.ppuTick (s : State) : State :=
  if s.lcdOn then
    let t := { s with ppu := { s.ppu with cyclesRemaining := s.ppu.cyclesRemaining - 1 } }
    if t.ppu.cyclesRemaining = 0 then
      match t.ppu.mode with
      | .oamScan => t.endOamScan
      | .drawing => t.endDrawing
      | .hBlank => t.endHBlank
      | .vBlank => t.endVBlankLine
    else t
  else s

end Sys2Proof.Machine
end

