-- ==== Sys2Proof/Machine/Timer.lean ====
section
/-! DEFINITION. The timer: a free-running counter whose selected bit, gated by the enable, increments TIMA on falling
edges, and the reload after an overflow (60_exceptions section 5). `delay` is the parameter TIMA_RELOAD_DELAY. -/

namespace Sys2Proof.Machine

/-- The counter bit that `TAC[1:0]` selects (60_exceptions R341). -/
def selBit (sel : BitVec 2) : Nat :=
  match sel.toNat with
  | 0 => 9
  | 1 => 3
  | 2 => 5
  | _ => 7

/-- `TimerSignal(tac, ctr) = tac[2] & ctr[sel_bit(tac[1:0])]` (60_exceptions R341). -/
def timerSignal (tac : BitVec 3) (ctr : Word) : Bool :=
  tac.getLsbD 2 && ctr.getLsbD (selBit (tac.extractLsb' 0 2))

/-- The timer's signal now. -/
def TimerState.signal (t : TimerState) : Bool := timerSignal t.tac t.systemCounter

/-- `IncTima()` (60_exceptions R342). -/
def TimerState.incTima (delay : Nat) (t : TimerState) : TimerState :=
  if t.tima = 0xFF then { t with tima := 0x00, overflowPending := true, overflowDelay := delay }
  else { t with tima := t.tima + 1 }

/-- `IncTima()` when the signal was 1 before an event and is 0 after it (60_exceptions R341). -/
def TimerState.fallingEdge (delay : Nat) (old : Bool) (t : TimerState) : TimerState :=
  if old && !t.signal then t.incTima delay else t

/-- The first half of a tick: count a pending reload down and, when due, reload TIMA from TMA; the Boolean says that
the timer interrupt is requested (60_exceptions R343). -/
def TimerState.reloadStep (t : TimerState) : TimerState × Bool :=
  if t.overflowPending then
    let t := { t with overflowDelay := t.overflowDelay - 1 }
    if t.overflowDelay = 0 then ({ t with tima := t.tma, overflowPending := false }, true) else (t, false)
  else (t, false)

/-- The second half of a tick: advance the counter and test for the falling edge (60_exceptions R343). -/
def TimerState.countStep (delay : Nat) (t : TimerState) : TimerState :=
  TimerState.fallingEdge delay t.signal { t with systemCounter := t.systemCounter + 1 }

/-- `Timer.Tick()` (60_exceptions R343). -/
def State.timerTick (s : State) : State :=
  State.requestWhen s.timer.reloadStep.2 2
    { s with timer := s.timer.reloadStep.1.countStep s.cfg.timaReloadDelay }

/-- A write to DIV: all 16 counter bits go to 0, with the falling-edge test, so it can itself count TIMA
(60_exceptions R344, 70_reset R410 item 6). -/
def TimerState.writeDiv (delay : Nat) (t : TimerState) : TimerState :=
  TimerState.fallingEdge delay t.signal { t with systemCounter := 0 }

/-- A write to TAC: 3 bits stored, with the falling-edge test, so it can itself count TIMA (60_exceptions
R345, 70_reset R410 item 6). -/
def TimerState.writeTac (delay : Nat) (v : Byte) (t : TimerState) : TimerState :=
  TimerState.fallingEdge delay t.signal { t with tac := v.extractLsb' 0 3 }

/-- A write to TIMA; with TIMA_WRITE_CANCELS_RELOAD it cancels a pending reload (60_exceptions R346). -/
def TimerState.writeTima (cancels : Bool) (v : Byte) (t : TimerState) : TimerState :=
  { t with tima := v, overflowPending := if cancels then false else t.overflowPending }

/-- A read of DIV: `systemCounter[15:8]` (60_exceptions R344). -/
def TimerState.readDiv (t : TimerState) : Byte := t.systemCounter.extractLsb' 8 8

/-- A read of TAC: `0xF8 | TAC` (60_exceptions R345). -/
def TimerState.readTac (t : TimerState) : Byte := 0xF8 ||| t.tac.setWidth 8

end Sys2Proof.Machine
end

