-- ==== Sys2Proof/Machine/Bus.lean ====
section
/-! DEFINITION. The bus: the address decoder, access blocking, the I/O registers, the mapper and the OAM DMA
(20_memory.md). Reads have no side effect; a write never faults (R50, R51). -/

namespace Sys2Proof.Machine

/-- The regions of the address map (20_memory section 1). -/
inductive Region where
  | rom | vram | cartRam | wram | echo | oam | unusable | io | hram | ie
  deriving DecidableEq, Repr

/-- The region of an address, by the first matching row of 20_memory R50. -/
def region (a : Word) : Region :=
  if a.toNat ≤ 0x7FFF then .rom
  else if a.toNat ≤ 0x9FFF then .vram
  else if a.toNat ≤ 0xBFFF then .cartRam
  else if a.toNat ≤ 0xDFFF then .wram
  else if a.toNat ≤ 0xFDFF then .echo
  else if a.toNat ≤ 0xFE9F then .oam
  else if a.toNat ≤ 0xFEFF then .unusable
  else if a.toNat ≤ 0xFF7F then .io
  else if a.toNat ≤ 0xFFFE then .hram
  else .ie

/-- The named I/O registers (20_memory R70); `plain` is every other I/O address (R74). -/
inductive IoReg where
  | joyp | sb | sc | div | tima | tma | tac | iflag
  | lcdc | stat | scy | scx | ly | lyc | dma | bgp | obp0 | obp1 | wy | wx
  | plain
  deriving DecidableEq, Repr

/-- The addresses of the named I/O registers (20_memory R70). -/
def ioTable : List (Nat × IoReg) :=
  [(0xFF00, .joyp), (0xFF01, .sb), (0xFF02, .sc), (0xFF04, .div), (0xFF05, .tima), (0xFF06, .tma), (0xFF07, .tac),
   (0xFF0F, .iflag)] ++
  [(0xFF40, .lcdc), (0xFF41, .stat), (0xFF42, .scy), (0xFF43, .scx), (0xFF44, .ly), (0xFF45, .lyc), (0xFF46, .dma),
   (0xFF47, .bgp), (0xFF48, .obp0), (0xFF49, .obp1), (0xFF4A, .wy), (0xFF4B, .wx)]

/-- The I/O register at an address (20_memory R60, R70). -/
def ioReg (a : Word) : IoReg := (ioTable.lookup a.toNat).getD .plain

/-- `Mapper.ReadRom(a)`: with no mapper the byte of the ROM image; out of a mapper's physical bounds 0xFF (20_memory R52,
R54, R56). -/
def State.mapperReadRom (s : State) (a : Word) : Byte :=
  match s.cfg.mapper with
  | .noMapper => s.mem.read a.toNat
  | .external id => (Config.mapperReadRom id s.mapperState a).getD 0xFF

/-- `Mapper.WriteRom(a, v)`: with no mapper nothing; else the mapper's next state, unchanged out of its physical bounds
(20_memory R52, R54, R56). -/
def State.mapperWriteRom (a : Word) (v : Byte) (s : State) : State :=
  match s.cfg.mapper with
  | .noMapper => s
  | .external id => { s with mapperState := (Config.mapperWriteRom id s.mapperState a v).getD s.mapperState }

/-- `Mapper.ReadRam(a)`: with no mapper there is no cartridge RAM and a read gives 0xFF, as it does out of a mapper's
physical bounds (20_memory R54, R56). -/
def State.mapperReadRam (s : State) (a : Word) : Byte :=
  match s.cfg.mapper with
  | .noMapper => 0xFF
  | .external id => (Config.mapperReadRam id s.mapperState a).getD 0xFF

/-- `Mapper.WriteRam(a, v)`: with no mapper nothing; else the mapper's next state, unchanged out of its physical bounds
(20_memory R54, R56). -/
def State.mapperWriteRam (a : Word) (v : Byte) (s : State) : State :=
  match s.cfg.mapper with
  | .noMapper => s
  | .external id => { s with mapperState := (Config.mapperWriteRam id s.mapperState a v).getD s.mapperState }

/-- `OamBlocked()`: mode 2 or 3, or inside the DMA window (20_memory R63, R64, 70_reset R410 item 5). -/
def State.oamBlocked (s : State) : Bool := decide (2 ≤ s.ppu.mode.code.toNat) || decide (0 < s.dmaBusy)

/-- `VramBlocked()`: in mode 3 when VRAM_ACCESS_MODE is `vram_mode3_blocked` (20_memory R65, 70_reset R410 item 5). -/
def State.vramBlocked (s : State) : Bool :=
  match s.cfg.vramAccessMode with
  | .vramOpen => false
  | .vramMode3Blocked => decide (s.ppu.mode = .drawing)

/-- `IoRead(a)` (20_memory R60, R70). -/
def State.ioRead (s : State) (a : Word) : Byte :=
  match ioReg a with
  | .joyp => s.joypRead
  | .sb => s.sb
  | .sc => s.sc
  | .div => s.timer.readDiv
  | .tima => s.timer.tima
  | .tma => s.timer.tma
  | .tac => s.timer.readTac
  | .iflag => 0xE0 ||| s.iflag.setWidth 8
  | .lcdc => s.lcd.lcdc
  | .stat => s.lcd.stat
  | .scy => s.lcd.scy
  | .scx => s.lcd.scx
  | .ly => s.lcd.ly
  | .lyc => s.lcd.lyc
  | .dma => s.lcd.dma
  | .bgp => s.lcd.bgp
  | .obp0 => s.lcd.obp0
  | .obp1 => s.lcd.obp1
  | .wy => s.lcd.wy
  | .wx => s.lcd.wx
  | .plain => s.mem.read a.toNat

/-- The read decode of 20_memory R50, with the two blocking tests as arguments. -/
def State.readWith (s : State) (vramBlocked oamBlocked : Bool) (a : Word) : Byte :=
  match region a with
  | .rom => s.mapperReadRom a
  | .vram => if vramBlocked then 0xFF else s.mem.read a.toNat
  | .cartRam => s.mapperReadRam a
  | .wram => s.mem.read a.toNat
  | .echo => s.mem.read (a.toNat - 0x2000)
  | .oam => if oamBlocked then 0xFF else s.mem.read a.toNat
  | .unusable => 0xFF
  | .io => s.ioRead a
  | .hram => s.mem.read a.toNat
  | .ie => s.ie

/-- `Read(a)`, the CPU's read (20_memory R50). -/
def State.read (s : State) (a : Word) : Byte := s.readWith s.vramBlocked s.oamBlocked a

/-- `RawRead(a)`: `Read(a)` with both blocking tests taken as false (20_memory R66). -/
def State.rawRead (s : State) (a : Word) : Byte := s.readWith false false a

/-- Store a byte at an address that has storage. -/
def State.store (a : Nat) (v : Byte) (s : State) : State := { s with mem := s.mem.write a v }

/-- One byte of the OAM copy: `oam[i] <- RawRead((v << 8) + i)` (20_memory R80, R81). -/
def State.dmaCopyByte (v : Byte) (s : State) (i : Nat) : State :=
  s.store (0xFE00 + i) (s.rawRead (wordOf v 0 + BitVec.ofNat 16 i))

/-- A write to DMA: the register, the copy of 160 bytes, the busy window (20_memory R80). -/
def State.startDma (v : Byte) (s : State) : State :=
  { (List.range 160).foldl (State.dmaCopyByte v) { s with lcd := { s.lcd with dma := v } } with
    dmaBusy := s.cfg.dmaBusyCycles }

/-- `DMA.Tick()` (20_memory R85). -/
def State.dmaTick (s : State) : State := { s with dmaBusy := s.dmaBusy - 1 }

/-- `IoWrite(a, v)` (20_memory R60, R70). -/
def State.ioWrite (a : Word) (v : Byte) (s : State) : State :=
  match ioReg a with
  | .joyp => { s with joySel := v.extractLsb' 4 2 }
  | .sb => { s with sb := v }
  | .sc => { s with sc := v }
  | .div => { s with timer := s.timer.writeDiv s.cfg.timaReloadDelay }
  | .tima => { s with timer := s.timer.writeTima s.cfg.timaWriteCancelsReload v }
  | .tma => { s with timer := { s.timer with tma := v } }
  | .tac => { s with timer := s.timer.writeTac s.cfg.timaReloadDelay v }
  | .iflag => { s with iflag := v.extractLsb' 0 5 }
  | .lcdc => s.writeLcdc v
  | .stat => { s with lcd := { s.lcd with stat := writeStat s.lcd.stat v } }
  | .scy => { s with lcd := { s.lcd with scy := v } }
  | .scx => { s with lcd := { s.lcd with scx := v } }
  | .ly => s.setLy 0
  | .lyc => { s with lcd := { s.lcd with lyc := v } }
  | .dma => s.startDma v
  | .bgp => { s with lcd := { s.lcd with bgp := v } }
  | .obp0 => { s with lcd := { s.lcd with obp0 := v } }
  | .obp1 => { s with lcd := { s.lcd with obp1 := v } }
  | .wy => { s with lcd := { s.lcd with wy := v } }
  | .wx => { s with lcd := { s.lcd with wx := v } }
  | .plain => s.store a.toNat v

/-- `Write(a, v)`, the CPU's write: what the map does not accept is dropped (20_memory R51), a push into ROM, OAM or the
unusable region too (70_reset R410 item 3). -/
def State.write (a : Word) (v : Byte) (s : State) : State :=
  match region a with
  | .rom => s.mapperWriteRom a v
  | .vram => if s.vramBlocked then s else s.store a.toNat v
  | .cartRam => s.mapperWriteRam a v
  | .wram => s.store a.toNat v
  | .echo => s.store (a.toNat - 0x2000) v
  | .oam => if s.oamBlocked then s else s.store a.toNat v
  | .unusable => s
  | .io => s.ioWrite a v
  | .hram => s.store a.toNat v
  | .ie => { s with ie := v }

/-- The addresses whose byte is held in `mem`: the no-mapper's ROM, VRAM, work RAM, OAM, unnamed I/O and high RAM (10_state R28). -/
def isStorage (a : Nat) : Bool :=
  decide (a ≤ 0x9FFF) || (decide (0xC000 ≤ a) && decide (a ≤ 0xDFFF)) || (decide (0xFE00 ≤ a) && decide (a ≤ 0xFE9F)) ||
    (decide (0xFF00 ≤ a) && decide (a ≤ 0xFFFE) && (ioTable.lookup a).isNone)

end Sys2Proof.Machine
end

