-- ==== Sys2Proof/Machine/Ops.lean ====
section
/-! DEFINITION. The named operations over registers and memory that every instruction is written with, the opcode
fetch, and taking an interrupt and returning from one (00_scope section 6, 60_exceptions R320, R323). -/

namespace Sys2Proof.Machine

/-- What executing an instruction answers. -/
abbrev Result := Host.Outcome State Fault Refusal

/-- End an instruction: `cycles <- n` (00_scope section 6.3; 70_reset R429, R430). -/
def State.finish (n : Nat) (s : State) : Result := .next { s with cycles := n }

/-- `F` as a byte: Z, N, H, C in bits 7..4, bits 3..0 read 0 (10_state R12, R13). -/
def Flags.toByte (f : Flags) : Byte :=
  BitVec.ofBool f.z ++ BitVec.ofBool f.n ++ BitVec.ofBool f.h ++ BitVec.ofBool f.c ++ (0 : BitVec 4)

/-- The flags a byte written to `F` leaves: bits 3..0 are dropped (10_state R12, R13). -/
def Flags.ofByte (v : Byte) : Flags :=
  { z := v.getLsbD 7, n := v.getLsbD 6, h := v.getLsbD 5, c := v.getLsbD 4 }

/-- An 8-bit register (30_encoding R104). -/
def State.getReg (s : State) : Reg8 → Byte
  | .a => s.regs.a
  | .b => s.regs.b
  | .c => s.regs.c
  | .d => s.regs.d
  | .e => s.regs.e
  | .h => s.regs.h
  | .l => s.regs.l

/-- Write an 8-bit register. -/
def State.setReg (r : Reg8) (v : Byte) (s : State) : State :=
  match r with
  | .a => { s with regs := { s.regs with a := v } }
  | .b => { s with regs := { s.regs with b := v } }
  | .c => { s with regs := { s.regs with c := v } }
  | .d => { s with regs := { s.regs with d := v } }
  | .e => { s with regs := { s.regs with e := v } }
  | .h => { s with regs := { s.regs with h := v } }
  | .l => { s with regs := { s.regs with l := v } }

/-- Write the flags. -/
def State.setFlags (f : Flags) (s : State) : State := { s with regs := { s.regs with flags := f } }

/-- Write `PC`. -/
def State.setPc (v : Word) (s : State) : State := { s with regs := { s.regs with pc := v } }

/-- Write `SP`. -/
def State.setSp (v : Word) (s : State) : State := { s with regs := { s.regs with sp := v } }

/-- Write `IME`. -/
def State.setIme (v : Bool) (s : State) : State := { s with ctl := { s.ctl with ime := v } }

/-- `HL` (10_state R11). -/
def State.hl (s : State) : Word := wordOf s.regs.h s.regs.l

/-- A pair of `rr[p]`: the first-named register is the high byte (10_state R11, 30_encoding R105). -/
def State.getPair (s : State) : Reg16 → Word
  | .bc => wordOf s.regs.b s.regs.c
  | .de => wordOf s.regs.d s.regs.e
  | .hl => s.hl
  | .sp => s.regs.sp

/-- Write a pair of `rr[p]`: both halves at once (10_state R11). -/
def State.setPair (p : Reg16) (v : Word) (s : State) : State :=
  match p with
  | .bc => { s with regs := { s.regs with b := hiByte v, c := loByte v } }
  | .de => { s with regs := { s.regs with d := hiByte v, e := loByte v } }
  | .hl => { s with regs := { s.regs with h := hiByte v, l := loByte v } }
  | .sp => s.setSp v

/-- A pair of `rs[p]`; `AF` shows `F` with bits 3..0 zero (10_state R11, R12). -/
def State.getStackPair (s : State) : StackReg → Word
  | .bc => s.getPair .bc
  | .de => s.getPair .de
  | .hl => s.hl
  | .af => wordOf s.regs.a s.regs.flags.toByte

/-- Write a pair of `rs[p]`; `AF` drops bits 3..0 of the low byte (10_state R12). -/
def State.setStackPair (p : StackReg) (v : Word) (s : State) : State :=
  match p with
  | .bc => s.setPair .bc v
  | .de => s.setPair .de v
  | .hl => s.setPair .hl v
  | .af => { s with regs := { s.regs with a := hiByte v, flags := Flags.ofByte (loByte v) } }

/-- `sext_16(v)` (00_scope section 6.1). -/
def sext16 (v : Byte) : Word := v.signExtend 16

/-- The address `0xFF00 + n` of the `LDH` forms (30_encoding R103). -/
def highPage (n : Byte) : Word := 0xFF00 + n.setWidth 16

/-- `Fetch8()` (00_scope section 6.3): the byte at `PC`, and the state with `PC` advanced. -/
def State.fetch8 (s : State) : Byte × State := (s.read s.regs.pc, s.setPc (s.regs.pc + 1))

/-- Push one byte: `SP` pre-decremented, then the write (10_state R14). -/
def State.pushByte (v : Byte) (s : State) : State :=
  let t := s.setSp (s.regs.sp - 1)
  t.write t.regs.sp v

/-- `Push16(v)`: the high byte first, then the low byte (42_loads16_alu16 R213). -/
def State.push16 (v : Word) (s : State) : State := (s.pushByte (hiByte v)).pushByte (loByte v)

/-- The word `Pop16()` reads: the low byte at `SP`, the high byte at `SP + 1` (42_loads16_alu16 R214, 20_memory R90). -/
def State.stackTop (s : State) : Word := wordOf (s.read (s.regs.sp + 1)) (s.read s.regs.sp)

/-- The state after `Pop16()`: `SP` advanced by two (42_loads16_alu16 R214). -/
def State.popped (s : State) : State := s.setSp (s.regs.sp + 2)

/-- `cond(cc)` (44_control R270). -/
def State.cond (s : State) : Cond → Bool
  | .nz => !s.regs.flags.z
  | .z => s.regs.flags.z
  | .nc => !s.regs.flags.c
  | .c => s.regs.flags.c

/-- Taking an interrupt (60_exceptions R320): the lowest pending bit `b`; clear `IME` and `IF` bit `b`, push `PC` through
the bus (92_eei D32), go to the vector, clear `Halted`. The bits are cleared before the push. 20 cycles. -/
def State.dispatchInterrupt (s : State) : State :=
  let b := highestPendingBit s.pending
  let t := State.push16 s.regs.pc (State.clearInterrupt b (State.setIme false s))
  { t with
    regs := { t.regs with pc := interruptVector b }
    ctl := { t.ctl with halted := false }
    cycles := 20 }

/-- Returning from an interrupt, `RETI`: `PC <- Pop16(); IME <- 1`; nothing else is restored (44_control R280,
60_exceptions R325). -/
def State.returnFromInterrupt (s : State) : State := State.setIme true (State.setPc s.stackTop s.popped)

/-- Step 1 of `Step()`: promote `EiPending` to `IME` (60_exceptions R319). -/
def State.promoteEi (s : State) : State :=
  if s.ctl.eiPending then { s with ctl := { s.ctl with ime := true, eiPending := false } } else s

/-- The opcode fetch of step 5: the state after it, `PC` advanced unless `HaltBug` is set, which is then cleared
(60_exceptions R323). -/
def State.afterOpcodeFetch (s : State) : State :=
  if s.ctl.haltBug then { s with ctl := { s.ctl with haltBug := false } } else s.setPc (s.regs.pc + 1)

/-- The bytes an instruction can consist of: the opcode at `PC` and the two bytes the immediate fetches would read after
it, which with the halt bug begin at the opcode's own address (60_exceptions R323, 30_encoding R115). Reads have no side
effect, so reading all three changes nothing (notes/assumptions/9.md). -/
def State.instructionBytes (s : State) : List Byte :=
  let t := s.afterOpcodeFetch
  [s.read s.regs.pc, t.read t.regs.pc, t.read (t.regs.pc + 1)]

/-- Fetch and decode one instruction (60_exceptions R323): the instruction, and the state with `PC` past all its bytes
(10_state R15). -/
def State.fetchInstr (s : State) : Except Reject (Instr × State) :=
  match decode s.instructionBytes with
  | .error r => .error r
  | .ok (i, rest) =>
    let t := s.afterOpcodeFetch
    .ok (i, t.setPc (t.regs.pc + BitVec.ofNat 16 (2 - rest.length)))

end Sys2Proof.Machine
end

