-- ==== Sys2Proof/Machine/Operands.lean ====
section
/-! DEFINITION. The operand forms: `x[code]`, a register or the memory byte at `HL` (30_encoding R104), and the source of
an ALU operation, with the cycle each adds (40_loads8 R130, 70_reset R429). -/

namespace Sys2Proof.Machine

/-- Read `x[code]` (30_encoding R104). -/
def State.readX (s : State) : Operand8 → Byte
  | .reg r => s.getReg r
  | .mHL => s.read s.hl

/-- Write `x[code]` (30_encoding R104). -/
def State.writeX (x : Operand8) (v : Byte) (s : State) : State :=
  match x with
  | .reg r => s.setReg r v
  | .mHL => s.write s.hl v

/-- One of two counts: the register form's and the `(HL)` form's (70_reset R429). -/
def formCycles (reg mHL : Nat) : Operand8 → Nat
  | .reg _ => reg
  | .mHL => mHL

end Sys2Proof.Machine
end

