-- ==== Sys2Proof/Machine/Flags.lean ====
section
/-! DEFINITION. The result and flag computations of every family: 8-bit sums and differences (41_alu8 R160), logic,
INC and DEC, DAA, the 16-bit sums (42_loads16_alu16 R218, R220) and the rotates (43_rotates_bits R234). Sums are exact
numbers, narrowed at the end. -/

namespace Sys2Proof.Machine

/-- `add8(a, v, c)` (41_alu8 R160). -/
def add8 (a v : Byte) (c : Bool) : Byte × Flags :=
  let r := a.toNat + v.toNat + c.toNat
  (BitVec.ofNat 8 r,
   { z := decide (r % 256 = 0)
     n := false
     h := decide (a.toNat % 16 + v.toNat % 16 + c.toNat > 0xF)
     c := decide (r > 0xFF) })

/-- `sub8(a, v, c)` (41_alu8 R160). -/
def sub8 (a v : Byte) (c : Bool) : Byte × Flags :=
  let r : Int := a.toNat - v.toNat - c.toNat
  (BitVec.ofInt 8 r,
   { z := decide (r % 256 = 0)
     n := true
     h := decide (a.toNat % 16 < v.toNat % 16 + c.toNat)
     c := decide (a.toNat < v.toNat + c.toNat) })

/-- The flags of a logic operation: Z from the result, N and C zero, H as given (41_alu8 R173, R176, R179). -/
def logicFlags (r : Byte) (h : Bool) : Flags := { z := decide (r = 0), n := false, h := h, c := false }

/-- The result and flags of ALU operation `y` on `A` and `v` (41_alu8 R161 to R184); `CP` keeps `A`. -/
def aluResult (op : AluOp) (a v : Byte) (carry : Bool) : Byte × Flags :=
  match op with
  | .add => add8 a v false
  | .adc => add8 a v carry
  | .sub => sub8 a v false
  | .sbc => sub8 a v carry
  | .and => (a &&& v, logicFlags (a &&& v) true)
  | .xor => (a ^^^ v, logicFlags (a ^^^ v) false)
  | .or => (a ||| v, logicFlags (a ||| v) false)
  | .cp => (a, (sub8 a v false).2)

/-- `INC`: result and flags, C kept (41_alu8 R185). -/
def inc8 (v : Byte) (f : Flags) : Byte × Flags :=
  let r := v + 1
  (r, { z := decide (r = 0), n := false, h := decide (v.toNat % 16 = 0xF), c := f.c })

/-- `DEC`: result and flags, C kept (41_alu8 R187). -/
def dec8 (v : Byte) (f : Flags) : Byte × Flags :=
  let r := v - 1
  (r, { z := decide (r = 0), n := true, h := decide (v.toNat % 16 = 0), c := f.c })

/-- `DAA`'s adjusted `A` and carry after an addition (41_alu8 R189). -/
def daaAfterAdd (a : Byte) (f : Flags) : Byte × Bool :=
  let high := f.c || decide (a.toNat > 0x99)
  let a1 := if high then a + 0x60 else a
  (if f.h || decide (a.toNat % 16 > 9) then a1 + 0x06 else a1, high)

/-- `DAA`'s adjusted `A` and carry after a subtraction: only the flags decide (41_alu8 R189). -/
def daaAfterSub (a : Byte) (f : Flags) : Byte × Bool :=
  let a1 := if f.c then a - 0x60 else a
  (if f.h then a1 - 0x06 else a1, f.c)

/-- `DAA`: result and flags (41_alu8 R189). -/
def daa8 (a : Byte) (f : Flags) : Byte × Flags :=
  let (r, c) := if f.n then daaAfterSub a f else daaAfterAdd a f
  (r, { z := decide (r = 0), n := f.n, h := false, c := c })

/-- `ADD HL,rr`: H from bit 11, C from bit 15, Z kept (42_loads16_alu16 R218). -/
def addHl (a v : Word) (f : Flags) : Word × Flags :=
  let r := a.toNat + v.toNat
  (BitVec.ofNat 16 r,
   { z := f.z
     n := false
     h := decide (a.toNat % 0x1000 + v.toNat % 0x1000 > 0x0FFF)
     c := decide (r > 0xFFFF) })

/-- `sp_plus_e8(sp, e)` with the flags of `ADD SP,e8` and `LD HL,SP+e8`: H and C from the low byte plus the unsigned
operand byte (42_loads16_alu16 R215, R219, R220). -/
def spPlusE8 (sp : Word) (e : Byte) : Word × Flags :=
  (sp + sext16 e,
   { z := false
     n := false
     h := decide (sp.toNat % 0x10 + e.toNat % 0x10 > 0x0F)
     c := decide (sp.toNat % 0x100 + e.toNat > 0xFF) })

/-- The eight rotate and shift functions: result and carry out (43_rotates_bits R234). -/
def rotate (op : RotOp) (v : Byte) (c : Bool) : Byte × Bool :=
  match op with
  | .rlc => ((v <<< 1) ||| (v >>> 7), v.getLsbD 7)
  | .rrc => ((v >>> 1) ||| (v <<< 7), v.getLsbD 0)
  | .rl => ((v <<< 1) ||| (BitVec.ofBool c).setWidth 8, v.getLsbD 7)
  | .rr => ((v >>> 1) ||| ((BitVec.ofBool c).setWidth 8 <<< 7), v.getLsbD 0)
  | .sla => (v <<< 1, v.getLsbD 7)
  | .sra => ((v >>> 1) ||| (v &&& 0x80), v.getLsbD 0)
  | .swap => ((v <<< 4) ||| (v >>> 4), false)
  | .srl => (v >>> 1, v.getLsbD 0)

/-- The flags of a CB rotate or shift (43_rotates_bits section 3). -/
def rotateFlags (r : Byte) (co : Bool) : Flags := { z := decide (r = 0), n := false, h := false, c := co }

/-- The flags of the accumulator rotates: Z is always 0 (43_rotates_bits R230). -/
def accRotateFlags (co : Bool) : Flags := { z := false, n := false, h := false, c := co }

/-- The byte with only bit `b` set, `1 << b` (43_rotates_bits R253, R255). -/
def bitMask (b : Fin 8) : Byte := 1#8 <<< b.val

end Sys2Proof.Machine
end

