-- ==== Sys2Proof/Machine/Alu8.lean ====
section
/-! DEFINITION. 8-bit arithmetic and logic (41_alu8 R160 to R192): a shared operation for each shape, then one meaning
per row. -/

namespace Sys2Proof.Machine

/-- ALU operation `op` on `A` and a value: the result to `A`, the flags to `F` (R160 to R184). -/
def aluApply (op : AluOp) (v : Byte) (n : Nat) (s : State) : Result :=
  let r := aluResult op s.regs.a v s.regs.flags.c
  ((s.setReg .a r.1).setFlags r.2).finish n

/-- ALU operation on `A` and `x[z]`: 4 cycles, 8 for `(HL)` (R161 to R183). -/
def aluX (op : AluOp) (x : Operand8) (s : State) : Result := aluApply op (s.readX x) (formCycles 4 8 x) s

/-- ALU operation on `A` and an immediate: 8 cycles (R163 to R184). -/
def aluN8 (op : AluOp) (v : Byte) (s : State) : Result := aluApply op v 8 s

/-- `INC r` and `INC (HL)`: one read, one write of the same place; 4 and 12 cycles (R185, R186). -/
def incX (x : Operand8) (s : State) : Result :=
  let r := inc8 (s.readX x) s.regs.flags
  ((s.writeX x r.1).setFlags r.2).finish (formCycles 4 12 x)

/-- `DEC r` and `DEC (HL)` (R187, R188). -/
def decX (x : Operand8) (s : State) : Result :=
  let r := dec8 (s.readX x) s.regs.flags
  ((s.writeX x r.1).setFlags r.2).finish (formCycles 4 12 x)

/-- `DAA` (R189). -/
def daaA (s : State) : Result :=
  let r := daa8 s.regs.a s.regs.flags
  ((s.setReg .a r.1).setFlags r.2).finish 4

/-- `CPL`: N and H to 1, Z and C kept (R190). -/
def cplA (s : State) : Result :=
  ((s.setReg .a (~~~s.regs.a)).setFlags { s.regs.flags with n := true, h := true }).finish 4

/-- `SCF`: C to 1, N and H to 0, Z kept (R191). -/
def scfA (s : State) : Result := (s.setFlags { s.regs.flags with n := false, h := false, c := true }).finish 4

/-- `CCF`: C inverted, N and H to 0, Z kept (R192). -/
def ccfA (s : State) : Result :=
  (s.setFlags { s.regs.flags with n := false, h := false, c := !s.regs.flags.c }).finish 4

/-- `INC B` (R185). -/
def execInc_B (s : State) : Result := incX (.reg .b) s

/-- `DEC B` (R187). -/
def execDec_B (s : State) : Result := decX (.reg .b) s

/-- `INC C` (R185). -/
def execInc_C (s : State) : Result := incX (.reg .c) s

/-- `DEC C` (R187). -/
def execDec_C (s : State) : Result := decX (.reg .c) s

/-- `INC D` (R185). -/
def execInc_D (s : State) : Result := incX (.reg .d) s

/-- `DEC D` (R187). -/
def execDec_D (s : State) : Result := decX (.reg .d) s

/-- `INC E` (R185). -/
def execInc_E (s : State) : Result := incX (.reg .e) s

/-- `DEC E` (R187). -/
def execDec_E (s : State) : Result := decX (.reg .e) s

/-- `INC H` (R185). -/
def execInc_H (s : State) : Result := incX (.reg .h) s

/-- `DEC H` (R187). -/
def execDec_H (s : State) : Result := decX (.reg .h) s

/-- `DAA` (R189). -/
def execDaa (s : State) : Result := daaA s

/-- `INC L` (R185). -/
def execInc_L (s : State) : Result := incX (.reg .l) s

/-- `DEC L` (R187). -/
def execDec_L (s : State) : Result := decX (.reg .l) s

/-- `CPL` (R190). -/
def execCpl (s : State) : Result := cplA s

/-- `INC (HL)` (R186). -/
def execInc_mHL (s : State) : Result := incX .mHL s

/-- `DEC (HL)` (R188). -/
def execDec_mHL (s : State) : Result := decX .mHL s

/-- `SCF` (R191). -/
def execScf (s : State) : Result := scfA s

/-- `INC A` (R185). -/
def execInc_A (s : State) : Result := incX (.reg .a) s

/-- `DEC A` (R187). -/
def execDec_A (s : State) : Result := decX (.reg .a) s

/-- `CCF` (R192). -/
def execCcf (s : State) : Result := ccfA s

/-- `ADD A,B` (R161). -/
def execAdd_A_B (s : State) : Result := aluX .add (.reg .b) s

/-- `ADD A,C` (R161). -/
def execAdd_A_C (s : State) : Result := aluX .add (.reg .c) s

/-- `ADD A,D` (R161). -/
def execAdd_A_D (s : State) : Result := aluX .add (.reg .d) s

/-- `ADD A,E` (R161). -/
def execAdd_A_E (s : State) : Result := aluX .add (.reg .e) s

/-- `ADD A,H` (R161). -/
def execAdd_A_H (s : State) : Result := aluX .add (.reg .h) s

/-- `ADD A,L` (R161). -/
def execAdd_A_L (s : State) : Result := aluX .add (.reg .l) s

/-- `ADD A,(HL)` (R162). -/
def execAdd_A_mHL (s : State) : Result := aluX .add .mHL s

/-- `ADD A,A` (R161). -/
def execAdd_A_A (s : State) : Result := aluX .add (.reg .a) s

/-- `ADC A,B` (R164). -/
def execAdc_A_B (s : State) : Result := aluX .adc (.reg .b) s

/-- `ADC A,C` (R164). -/
def execAdc_A_C (s : State) : Result := aluX .adc (.reg .c) s

/-- `ADC A,D` (R164). -/
def execAdc_A_D (s : State) : Result := aluX .adc (.reg .d) s

/-- `ADC A,E` (R164). -/
def execAdc_A_E (s : State) : Result := aluX .adc (.reg .e) s

/-- `ADC A,H` (R164). -/
def execAdc_A_H (s : State) : Result := aluX .adc (.reg .h) s

/-- `ADC A,L` (R164). -/
def execAdc_A_L (s : State) : Result := aluX .adc (.reg .l) s

/-- `ADC A,(HL)` (R165). -/
def execAdc_A_mHL (s : State) : Result := aluX .adc .mHL s

/-- `ADC A,A` (R164). -/
def execAdc_A_A (s : State) : Result := aluX .adc (.reg .a) s

/-- `SUB B` (R167). -/
def execSub_B (s : State) : Result := aluX .sub (.reg .b) s

/-- `SUB C` (R167). -/
def execSub_C (s : State) : Result := aluX .sub (.reg .c) s

/-- `SUB D` (R167). -/
def execSub_D (s : State) : Result := aluX .sub (.reg .d) s

/-- `SUB E` (R167). -/
def execSub_E (s : State) : Result := aluX .sub (.reg .e) s

/-- `SUB H` (R167). -/
def execSub_H (s : State) : Result := aluX .sub (.reg .h) s

/-- `SUB L` (R167). -/
def execSub_L (s : State) : Result := aluX .sub (.reg .l) s

/-- `SUB (HL)` (R168). -/
def execSub_mHL (s : State) : Result := aluX .sub .mHL s

/-- `SUB A` (R167). -/
def execSub_A (s : State) : Result := aluX .sub (.reg .a) s

/-- `SBC A,B` (R170). -/
def execSbc_A_B (s : State) : Result := aluX .sbc (.reg .b) s

/-- `SBC A,C` (R170). -/
def execSbc_A_C (s : State) : Result := aluX .sbc (.reg .c) s

/-- `SBC A,D` (R170). -/
def execSbc_A_D (s : State) : Result := aluX .sbc (.reg .d) s

/-- `SBC A,E` (R170). -/
def execSbc_A_E (s : State) : Result := aluX .sbc (.reg .e) s

/-- `SBC A,H` (R170). -/
def execSbc_A_H (s : State) : Result := aluX .sbc (.reg .h) s

/-- `SBC A,L` (R170). -/
def execSbc_A_L (s : State) : Result := aluX .sbc (.reg .l) s

/-- `SBC A,(HL)` (R171). -/
def execSbc_A_mHL (s : State) : Result := aluX .sbc .mHL s

/-- `SBC A,A` (R170). -/
def execSbc_A_A (s : State) : Result := aluX .sbc (.reg .a) s

/-- `AND B` (R173). -/
def execAnd_B (s : State) : Result := aluX .and (.reg .b) s

/-- `AND C` (R173). -/
def execAnd_C (s : State) : Result := aluX .and (.reg .c) s

/-- `AND D` (R173). -/
def execAnd_D (s : State) : Result := aluX .and (.reg .d) s

/-- `AND E` (R173). -/
def execAnd_E (s : State) : Result := aluX .and (.reg .e) s

/-- `AND H` (R173). -/
def execAnd_H (s : State) : Result := aluX .and (.reg .h) s

/-- `AND L` (R173). -/
def execAnd_L (s : State) : Result := aluX .and (.reg .l) s

/-- `AND (HL)` (R174). -/
def execAnd_mHL (s : State) : Result := aluX .and .mHL s

/-- `AND A` (R173). -/
def execAnd_A (s : State) : Result := aluX .and (.reg .a) s

/-- `XOR B` (R176). -/
def execXor_B (s : State) : Result := aluX .xor (.reg .b) s

/-- `XOR C` (R176). -/
def execXor_C (s : State) : Result := aluX .xor (.reg .c) s

/-- `XOR D` (R176). -/
def execXor_D (s : State) : Result := aluX .xor (.reg .d) s

/-- `XOR E` (R176). -/
def execXor_E (s : State) : Result := aluX .xor (.reg .e) s

/-- `XOR H` (R176). -/
def execXor_H (s : State) : Result := aluX .xor (.reg .h) s

/-- `XOR L` (R176). -/
def execXor_L (s : State) : Result := aluX .xor (.reg .l) s

/-- `XOR (HL)` (R177). -/
def execXor_mHL (s : State) : Result := aluX .xor .mHL s

/-- `XOR A` (R176). -/
def execXor_A (s : State) : Result := aluX .xor (.reg .a) s

/-- `OR B` (R179). -/
def execOr_B (s : State) : Result := aluX .or (.reg .b) s

/-- `OR C` (R179). -/
def execOr_C (s : State) : Result := aluX .or (.reg .c) s

/-- `OR D` (R179). -/
def execOr_D (s : State) : Result := aluX .or (.reg .d) s

/-- `OR E` (R179). -/
def execOr_E (s : State) : Result := aluX .or (.reg .e) s

/-- `OR H` (R179). -/
def execOr_H (s : State) : Result := aluX .or (.reg .h) s

/-- `OR L` (R179). -/
def execOr_L (s : State) : Result := aluX .or (.reg .l) s

/-- `OR (HL)` (R180). -/
def execOr_mHL (s : State) : Result := aluX .or .mHL s

/-- `OR A` (R179). -/
def execOr_A (s : State) : Result := aluX .or (.reg .a) s

/-- `CP B` (R182). -/
def execCp_B (s : State) : Result := aluX .cp (.reg .b) s

/-- `CP C` (R182). -/
def execCp_C (s : State) : Result := aluX .cp (.reg .c) s

/-- `CP D` (R182). -/
def execCp_D (s : State) : Result := aluX .cp (.reg .d) s

/-- `CP E` (R182). -/
def execCp_E (s : State) : Result := aluX .cp (.reg .e) s

/-- `CP H` (R182). -/
def execCp_H (s : State) : Result := aluX .cp (.reg .h) s

/-- `CP L` (R182). -/
def execCp_L (s : State) : Result := aluX .cp (.reg .l) s

/-- `CP (HL)` (R183). -/
def execCp_mHL (s : State) : Result := aluX .cp .mHL s

/-- `CP A` (R182). -/
def execCp_A (s : State) : Result := aluX .cp (.reg .a) s

/-- `ADD A,n8` (R163). -/
def execAdd_A_n8 (n : Byte) (s : State) : Result := aluN8 .add n s

/-- `ADC A,n8` (R166). -/
def execAdc_A_n8 (n : Byte) (s : State) : Result := aluN8 .adc n s

/-- `SUB n8` (R169). -/
def execSub_n8 (n : Byte) (s : State) : Result := aluN8 .sub n s

/-- `SBC A,n8` (R172). -/
def execSbc_A_n8 (n : Byte) (s : State) : Result := aluN8 .sbc n s

/-- `AND n8` (R175). -/
def execAnd_n8 (n : Byte) (s : State) : Result := aluN8 .and n s

/-- `XOR n8` (R178). -/
def execXor_n8 (n : Byte) (s : State) : Result := aluN8 .xor n s

/-- `OR n8` (R181). -/
def execOr_n8 (n : Byte) (s : State) : Result := aluN8 .or n s

/-- `CP n8` (R184). -/
def execCp_n8 (n : Byte) (s : State) : Result := aluN8 .cp n s

end Sys2Proof.Machine
end

