-- ==== Sys2Proof/Machine/Control.lean ====
section
/-! DEFINITION. Control transfer (44_control R270 to R281): a shared operation for each shape, then one meaning per row.
`PC` is already past the whole instruction (10_state R15); no flag changes. -/

namespace Sys2Proof.Machine

/-- `JP a16`: 16 cycles (R271). -/
def jpTo (a : Word) (s : State) : Result := (s.setPc a).finish 16

/-- `JP cc,a16`: 16 cycles taken, 12 not (R272). -/
def jpIf (cc : Cond) (a : Word) (s : State) : Result := if s.cond cc then (s.setPc a).finish 16 else s.finish 12

/-- `JP HL`: the target is `HL` itself; 4 cycles (R273). -/
def jpHl (s : State) : Result := (s.setPc s.hl).finish 4

/-- `JR e8`: from the address after the instruction, modulo 2^16; 12 cycles (R274). -/
def jrTo (e : Byte) (s : State) : Result := (s.setPc (s.regs.pc + sext16 e)).finish 12

/-- `JR cc,e8`: 12 cycles taken, 8 not (R275). -/
def jrIf (cc : Cond) (e : Byte) (s : State) : Result :=
  if s.cond cc then (s.setPc (s.regs.pc + sext16 e)).finish 12 else s.finish 8

/-- `CALL a16`: push the address after the instruction, then jump; 24 cycles (R276). -/
def callTo (a : Word) (s : State) : Result := ((s.push16 s.regs.pc).setPc a).finish 24

/-- `CALL cc,a16`: 24 cycles taken, 12 not (R277). -/
def callIf (cc : Cond) (a : Word) (s : State) : Result :=
  if s.cond cc then ((s.push16 s.regs.pc).setPc a).finish 24 else s.finish 12

/-- `RET`: 16 cycles (R278). -/
def retAlways (s : State) : Result := (s.popped.setPc s.stackTop).finish 16

/-- `RET cc`: 20 cycles taken, 8 not (R279). -/
def retIf (cc : Cond) (s : State) : Result :=
  if s.cond cc then (s.popped.setPc s.stackTop).finish 20 else s.finish 8

/-- `RETI`: 16 cycles (R280). -/
def retInterrupt (s : State) : Result := s.returnFromInterrupt.finish 16

/-- `RST n`: push the address after the instruction, go to the fixed target; 16 cycles (R281). -/
def rstTo (target : Word) (s : State) : Result := ((s.push16 s.regs.pc).setPc target).finish 16

/-- `JR e8` (R274). -/
def execJr_e8 (e : Byte) (s : State) : Result := jrTo e s

/-- `JR NZ,e8` (R275). -/
def execJr_NZ_e8 (e : Byte) (s : State) : Result := jrIf .nz e s

/-- `JR Z,e8` (R275). -/
def execJr_Z_e8 (e : Byte) (s : State) : Result := jrIf .z e s

/-- `JR NC,e8` (R275). -/
def execJr_NC_e8 (e : Byte) (s : State) : Result := jrIf .nc e s

/-- `JR C,e8` (R275). -/
def execJr_C_e8 (e : Byte) (s : State) : Result := jrIf .c e s

/-- `RET NZ` (R279). -/
def execRet_NZ (s : State) : Result := retIf .nz s

/-- `JP NZ,a16` (R272). -/
def execJp_NZ_a16 (a : Word) (s : State) : Result := jpIf .nz a s

/-- `JP a16` (R271). -/
def execJp_a16 (a : Word) (s : State) : Result := jpTo a s

/-- `CALL NZ,a16` (R277). -/
def execCall_NZ_a16 (a : Word) (s : State) : Result := callIf .nz a s

/-- `RST 00H` (R281). -/
def execRst_00H (s : State) : Result := rstTo 0x00 s

/-- `RET Z` (R279). -/
def execRet_Z (s : State) : Result := retIf .z s

/-- `RET` (R278). -/
def execRet (s : State) : Result := retAlways s

/-- `JP Z,a16` (R272). -/
def execJp_Z_a16 (a : Word) (s : State) : Result := jpIf .z a s

/-- `CALL Z,a16` (R277). -/
def execCall_Z_a16 (a : Word) (s : State) : Result := callIf .z a s

/-- `CALL a16` (R276). -/
def execCall_a16 (a : Word) (s : State) : Result := callTo a s

/-- `RST 08H` (R281). -/
def execRst_08H (s : State) : Result := rstTo 0x08 s

/-- `RET NC` (R279). -/
def execRet_NC (s : State) : Result := retIf .nc s

/-- `JP NC,a16` (R272). -/
def execJp_NC_a16 (a : Word) (s : State) : Result := jpIf .nc a s

/-- `CALL NC,a16` (R277). -/
def execCall_NC_a16 (a : Word) (s : State) : Result := callIf .nc a s

/-- `RST 10H` (R281). -/
def execRst_10H (s : State) : Result := rstTo 0x10 s

/-- `RET C` (R279). -/
def execRet_C (s : State) : Result := retIf .c s

/-- `RETI` (R280). -/
def execReti (s : State) : Result := retInterrupt s

/-- `JP C,a16` (R272). -/
def execJp_C_a16 (a : Word) (s : State) : Result := jpIf .c a s

/-- `CALL C,a16` (R277). -/
def execCall_C_a16 (a : Word) (s : State) : Result := callIf .c a s

/-- `RST 18H` (R281). -/
def execRst_18H (s : State) : Result := rstTo 0x18 s

/-- `RST 20H` (R281). -/
def execRst_20H (s : State) : Result := rstTo 0x20 s

/-- `JP HL` (R273). -/
def execJp_HL (s : State) : Result := jpHl s

/-- `RST 28H` (R281). -/
def execRst_28H (s : State) : Result := rstTo 0x28 s

/-- `RST 30H` (R281). -/
def execRst_30H (s : State) : Result := rstTo 0x30 s

/-- `RST 38H` (R281). -/
def execRst_38H (s : State) : Result := rstTo 0x38 s

end Sys2Proof.Machine
end

