-- ==== Sys2Proof/Machine/Loads16.lean ====
section
/-! DEFINITION. 16-bit loads, stack operations and 16-bit arithmetic (42_loads16_alu16 R210 to R220): a shared operation
for each shape, then one meaning per row. -/

namespace Sys2Proof.Machine

/-- `LD rr,n16`: 12 cycles (R210). -/
def ldPairN16 (p : Reg16) (n : Word) (s : State) : Result := (s.setPair p n).finish 12

/-- `LD (a16),SP`: the low byte at `a`, the high byte at `a + 1`; 20 cycles (R211). -/
def ldMemSp (a : Word) (s : State) : Result :=
  ((s.write a (loByte s.regs.sp)).write (a + 1) (hiByte s.regs.sp)).finish 20

/-- `LD SP,HL`: 8 cycles (R212). -/
def ldSpHl (s : State) : Result := (s.setSp s.hl).finish 8

/-- `PUSH rr`: 16 cycles (R213). -/
def pushPair (p : StackReg) (s : State) : Result := (s.push16 (s.getStackPair p)).finish 16

/-- `POP rr`: 12 cycles (R214). -/
def popPair (p : StackReg) (s : State) : Result := (s.popped.setStackPair p s.stackTop).finish 12

/-- `LD HL,SP+e8`: 12 cycles (R215). -/
def ldHlSpE8 (e : Byte) (s : State) : Result :=
  let r := spPlusE8 s.regs.sp e
  ((s.setPair .hl r.1).setFlags r.2).finish 12

/-- `INC rr`: no flag changes; 8 cycles (R216). -/
def incPair (p : Reg16) (s : State) : Result := (s.setPair p (s.getPair p + 1)).finish 8

/-- `DEC rr`: no flag changes; 8 cycles (R217). -/
def decPair (p : Reg16) (s : State) : Result := (s.setPair p (s.getPair p - 1)).finish 8

/-- `ADD HL,rr`: 8 cycles (R218). -/
def addHlPair (p : Reg16) (s : State) : Result :=
  let r := addHl s.hl (s.getPair p) s.regs.flags
  ((s.setPair .hl r.1).setFlags r.2).finish 8

/-- `ADD SP,e8`: 16 cycles (R219). -/
def addSpE8 (e : Byte) (s : State) : Result :=
  let r := spPlusE8 s.regs.sp e
  ((s.setSp r.1).setFlags r.2).finish 16

/-- `LD BC,n16` (R210). -/
def execLd_BC_n16 (n : Word) (s : State) : Result := ldPairN16 .bc n s

/-- `INC BC` (R216). -/
def execInc_BC (s : State) : Result := incPair .bc s

/-- `LD (a16),SP` (R211). -/
def execLd_ma16_SP (a : Word) (s : State) : Result := ldMemSp a s

/-- `ADD HL,BC` (R218). -/
def execAdd_HL_BC (s : State) : Result := addHlPair .bc s

/-- `DEC BC` (R217). -/
def execDec_BC (s : State) : Result := decPair .bc s

/-- `LD DE,n16` (R210). -/
def execLd_DE_n16 (n : Word) (s : State) : Result := ldPairN16 .de n s

/-- `INC DE` (R216). -/
def execInc_DE (s : State) : Result := incPair .de s

/-- `ADD HL,DE` (R218). -/
def execAdd_HL_DE (s : State) : Result := addHlPair .de s

/-- `DEC DE` (R217). -/
def execDec_DE (s : State) : Result := decPair .de s

/-- `LD HL,n16` (R210). -/
def execLd_HL_n16 (n : Word) (s : State) : Result := ldPairN16 .hl n s

/-- `INC HL` (R216). -/
def execInc_HL (s : State) : Result := incPair .hl s

/-- `ADD HL,HL` (R218). -/
def execAdd_HL_HL (s : State) : Result := addHlPair .hl s

/-- `DEC HL` (R217). -/
def execDec_HL (s : State) : Result := decPair .hl s

/-- `LD SP,n16` (R210). -/
def execLd_SP_n16 (n : Word) (s : State) : Result := ldPairN16 .sp n s

/-- `INC SP` (R216). -/
def execInc_SP (s : State) : Result := incPair .sp s

/-- `ADD HL,SP` (R218). -/
def execAdd_HL_SP (s : State) : Result := addHlPair .sp s

/-- `DEC SP` (R217). -/
def execDec_SP (s : State) : Result := decPair .sp s

/-- `POP BC` (R214). -/
def execPop_BC (s : State) : Result := popPair .bc s

/-- `PUSH BC` (R213). -/
def execPush_BC (s : State) : Result := pushPair .bc s

/-- `POP DE` (R214). -/
def execPop_DE (s : State) : Result := popPair .de s

/-- `PUSH DE` (R213). -/
def execPush_DE (s : State) : Result := pushPair .de s

/-- `POP HL` (R214). -/
def execPop_HL (s : State) : Result := popPair .hl s

/-- `PUSH HL` (R213). -/
def execPush_HL (s : State) : Result := pushPair .hl s

/-- `ADD SP,e8` (R219). -/
def execAdd_SP_e8 (e : Byte) (s : State) : Result := addSpE8 e s

/-- `POP AF` (R214). -/
def execPop_AF (s : State) : Result := popPair .af s

/-- `PUSH AF` (R213). -/
def execPush_AF (s : State) : Result := pushPair .af s

/-- `LD HL,SP+e8` (R215). -/
def execLd_HL_SPe8 (e : Byte) (s : State) : Result := ldHlSpE8 e s

/-- `LD SP,HL` (R212). -/
def execLd_SP_HL (s : State) : Result := ldSpHl s

end Sys2Proof.Machine
end

