-- ==== Sys2Proof/Machine/Loads8.lean ====
section
/-! DEFINITION. The 8-bit loads (40_loads8 R130 to R149): a shared operation for each shape, then one meaning per row.
No load changes a flag. -/

namespace Sys2Proof.Machine

/-- `LD r,r'`: 4 cycles (R131). -/
def ldRR (dst r : Reg8) (s : State) : Result := (s.setReg dst (s.getReg r)).finish 4

/-- `LD r,n8`: 8 cycles (R132). -/
def ldRN8 (dst : Reg8) (n : Byte) (s : State) : Result := (s.setReg dst n).finish 8

/-- `LD r,(HL)`: 8 cycles (R133). -/
def ldRM (dst : Reg8) (s : State) : Result := (s.setReg dst (s.read s.hl)).finish 8

/-- `LD (HL),r`: 8 cycles (R134). -/
def ldMR (r : Reg8) (s : State) : Result := (s.write s.hl (s.getReg r)).finish 8

/-- `LD (HL),n8`: 12 cycles (R135). -/
def ldMN8 (n : Byte) (s : State) : Result := (s.write s.hl n).finish 12

/-- `A` from the byte at an address (R136, R137, R140, R142, R144). -/
def ldAMem (addr : Word) (n : Nat) (s : State) : Result := (s.setReg .a (s.read addr)).finish n

/-- `A` to the byte at an address (R138, R139, R141, R143, R145). -/
def ldMemA (addr : Word) (n : Nat) (s : State) : Result := (s.write addr s.regs.a).finish n

/-- `LD A,(HL+)` and `LD A,(HL-)`: the load, then `HL` moves by `delta` modulo 2^16 (R146, R148). -/
def ldAMemHlStep (delta : Word) (s : State) : Result :=
  State.finish 8 (State.setPair .hl (s.hl + delta) (s.setReg .a (s.read s.hl)))

/-- `LD (HL+),A` and `LD (HL-),A`: the store, then `HL` moves by `delta` modulo 2^16, dropped store or not (R147, R149). -/
def ldMemHlStepA (delta : Word) (s : State) : Result :=
  State.finish 8 (State.setPair .hl (s.hl + delta) (s.write s.hl s.regs.a))

/-- `LD (BC),A` (R138). -/
def execLd_mBC_A (s : State) : Result := ldMemA (s.getPair .bc) 8 s

/-- `LD B,n8` (R132). -/
def execLd_B_n8 (n : Byte) (s : State) : Result := ldRN8 .b n s

/-- `LD A,(BC)` (R136). -/
def execLd_A_mBC (s : State) : Result := ldAMem (s.getPair .bc) 8 s

/-- `LD C,n8` (R132). -/
def execLd_C_n8 (n : Byte) (s : State) : Result := ldRN8 .c n s

/-- `LD (DE),A` (R139). -/
def execLd_mDE_A (s : State) : Result := ldMemA (s.getPair .de) 8 s

/-- `LD D,n8` (R132). -/
def execLd_D_n8 (n : Byte) (s : State) : Result := ldRN8 .d n s

/-- `LD A,(DE)` (R137). -/
def execLd_A_mDE (s : State) : Result := ldAMem (s.getPair .de) 8 s

/-- `LD E,n8` (R132). -/
def execLd_E_n8 (n : Byte) (s : State) : Result := ldRN8 .e n s

/-- `LD (HL+),A` (R149). -/
def execLd_mHLi_A (s : State) : Result := ldMemHlStepA 1 s

/-- `LD H,n8` (R132). -/
def execLd_H_n8 (n : Byte) (s : State) : Result := ldRN8 .h n s

/-- `LD A,(HL+)` (R148). -/
def execLd_A_mHLi (s : State) : Result := ldAMemHlStep 1 s

/-- `LD L,n8` (R132). -/
def execLd_L_n8 (n : Byte) (s : State) : Result := ldRN8 .l n s

/-- `LD (HL-),A` (R147). -/
def execLd_mHLd_A (s : State) : Result := ldMemHlStepA (-1) s

/-- `LD (HL),n8` (R135). -/
def execLd_mHL_n8 (n : Byte) (s : State) : Result := ldMN8 n s

/-- `LD A,(HL-)` (R146). -/
def execLd_A_mHLd (s : State) : Result := ldAMemHlStep (-1) s

/-- `LD A,n8` (R132). -/
def execLd_A_n8 (n : Byte) (s : State) : Result := ldRN8 .a n s

/-- `LD B,B` (R131). -/
def execLd_B_B (s : State) : Result := ldRR .b .b s

/-- `LD B,C` (R131). -/
def execLd_B_C (s : State) : Result := ldRR .b .c s

/-- `LD B,D` (R131). -/
def execLd_B_D (s : State) : Result := ldRR .b .d s

/-- `LD B,E` (R131). -/
def execLd_B_E (s : State) : Result := ldRR .b .e s

/-- `LD B,H` (R131). -/
def execLd_B_H (s : State) : Result := ldRR .b .h s

/-- `LD B,L` (R131). -/
def execLd_B_L (s : State) : Result := ldRR .b .l s

/-- `LD B,(HL)` (R133). -/
def execLd_B_mHL (s : State) : Result := ldRM .b s

/-- `LD B,A` (R131). -/
def execLd_B_A (s : State) : Result := ldRR .b .a s

/-- `LD C,B` (R131). -/
def execLd_C_B (s : State) : Result := ldRR .c .b s

/-- `LD C,C` (R131). -/
def execLd_C_C (s : State) : Result := ldRR .c .c s

/-- `LD C,D` (R131). -/
def execLd_C_D (s : State) : Result := ldRR .c .d s

/-- `LD C,E` (R131). -/
def execLd_C_E (s : State) : Result := ldRR .c .e s

/-- `LD C,H` (R131). -/
def execLd_C_H (s : State) : Result := ldRR .c .h s

/-- `LD C,L` (R131). -/
def execLd_C_L (s : State) : Result := ldRR .c .l s

/-- `LD C,(HL)` (R133). -/
def execLd_C_mHL (s : State) : Result := ldRM .c s

/-- `LD C,A` (R131). -/
def execLd_C_A (s : State) : Result := ldRR .c .a s

/-- `LD D,B` (R131). -/
def execLd_D_B (s : State) : Result := ldRR .d .b s

/-- `LD D,C` (R131). -/
def execLd_D_C (s : State) : Result := ldRR .d .c s

/-- `LD D,D` (R131). -/
def execLd_D_D (s : State) : Result := ldRR .d .d s

/-- `LD D,E` (R131). -/
def execLd_D_E (s : State) : Result := ldRR .d .e s

/-- `LD D,H` (R131). -/
def execLd_D_H (s : State) : Result := ldRR .d .h s

/-- `LD D,L` (R131). -/
def execLd_D_L (s : State) : Result := ldRR .d .l s

/-- `LD D,(HL)` (R133). -/
def execLd_D_mHL (s : State) : Result := ldRM .d s

/-- `LD D,A` (R131). -/
def execLd_D_A (s : State) : Result := ldRR .d .a s

/-- `LD E,B` (R131). -/
def execLd_E_B (s : State) : Result := ldRR .e .b s

/-- `LD E,C` (R131). -/
def execLd_E_C (s : State) : Result := ldRR .e .c s

/-- `LD E,D` (R131). -/
def execLd_E_D (s : State) : Result := ldRR .e .d s

/-- `LD E,E` (R131). -/
def execLd_E_E (s : State) : Result := ldRR .e .e s

/-- `LD E,H` (R131). -/
def execLd_E_H (s : State) : Result := ldRR .e .h s

/-- `LD E,L` (R131). -/
def execLd_E_L (s : State) : Result := ldRR .e .l s

/-- `LD E,(HL)` (R133). -/
def execLd_E_mHL (s : State) : Result := ldRM .e s

/-- `LD E,A` (R131). -/
def execLd_E_A (s : State) : Result := ldRR .e .a s

/-- `LD H,B` (R131). -/
def execLd_H_B (s : State) : Result := ldRR .h .b s

/-- `LD H,C` (R131). -/
def execLd_H_C (s : State) : Result := ldRR .h .c s

/-- `LD H,D` (R131). -/
def execLd_H_D (s : State) : Result := ldRR .h .d s

/-- `LD H,E` (R131). -/
def execLd_H_E (s : State) : Result := ldRR .h .e s

/-- `LD H,H` (R131). -/
def execLd_H_H (s : State) : Result := ldRR .h .h s

/-- `LD H,L` (R131). -/
def execLd_H_L (s : State) : Result := ldRR .h .l s

/-- `LD H,(HL)` (R133). -/
def execLd_H_mHL (s : State) : Result := ldRM .h s

/-- `LD H,A` (R131). -/
def execLd_H_A (s : State) : Result := ldRR .h .a s

/-- `LD L,B` (R131). -/
def execLd_L_B (s : State) : Result := ldRR .l .b s

/-- `LD L,C` (R131). -/
def execLd_L_C (s : State) : Result := ldRR .l .c s

/-- `LD L,D` (R131). -/
def execLd_L_D (s : State) : Result := ldRR .l .d s

/-- `LD L,E` (R131). -/
def execLd_L_E (s : State) : Result := ldRR .l .e s

/-- `LD L,H` (R131). -/
def execLd_L_H (s : State) : Result := ldRR .l .h s

/-- `LD L,L` (R131). -/
def execLd_L_L (s : State) : Result := ldRR .l .l s

/-- `LD L,(HL)` (R133). -/
def execLd_L_mHL (s : State) : Result := ldRM .l s

/-- `LD L,A` (R131). -/
def execLd_L_A (s : State) : Result := ldRR .l .a s

/-- `LD (HL),B` (R134). -/
def execLd_mHL_B (s : State) : Result := ldMR .b s

/-- `LD (HL),C` (R134). -/
def execLd_mHL_C (s : State) : Result := ldMR .c s

/-- `LD (HL),D` (R134). -/
def execLd_mHL_D (s : State) : Result := ldMR .d s

/-- `LD (HL),E` (R134). -/
def execLd_mHL_E (s : State) : Result := ldMR .e s

/-- `LD (HL),H` (R134). -/
def execLd_mHL_H (s : State) : Result := ldMR .h s

/-- `LD (HL),L` (R134). -/
def execLd_mHL_L (s : State) : Result := ldMR .l s

/-- `LD (HL),A` (R134). -/
def execLd_mHL_A (s : State) : Result := ldMR .a s

/-- `LD A,B` (R131). -/
def execLd_A_B (s : State) : Result := ldRR .a .b s

/-- `LD A,C` (R131). -/
def execLd_A_C (s : State) : Result := ldRR .a .c s

/-- `LD A,D` (R131). -/
def execLd_A_D (s : State) : Result := ldRR .a .d s

/-- `LD A,E` (R131). -/
def execLd_A_E (s : State) : Result := ldRR .a .e s

/-- `LD A,H` (R131). -/
def execLd_A_H (s : State) : Result := ldRR .a .h s

/-- `LD A,L` (R131). -/
def execLd_A_L (s : State) : Result := ldRR .a .l s

/-- `LD A,(HL)` (R133). -/
def execLd_A_mHL (s : State) : Result := ldRM .a s

/-- `LD A,A` (R131). -/
def execLd_A_A (s : State) : Result := ldRR .a .a s

/-- `LDH (a8),A` (R145). -/
def execLdh_ma8_A (a : Byte) (s : State) : Result := ldMemA (highPage a) 12 s

/-- `LDH (C),A` (R143). -/
def execLdh_mC_A (s : State) : Result := ldMemA (highPage s.regs.c) 8 s

/-- `LD (a16),A` (R141). -/
def execLd_ma16_A (a : Word) (s : State) : Result := ldMemA a 16 s

/-- `LDH A,(a8)` (R144). -/
def execLdh_A_ma8 (a : Byte) (s : State) : Result := ldAMem (highPage a) 12 s

/-- `LDH A,(C)` (R142). -/
def execLdh_A_mC (s : State) : Result := ldAMem (highPage s.regs.c) 8 s

/-- `LD A,(a16)` (R140). -/
def execLd_A_ma16 (a : Word) (s : State) : Result := ldAMem a 16 s

end Sys2Proof.Machine
end

