-- ==== Sys2Proof/Machine/Bits.lean ====
section
/-! DEFINITION. BIT, RES and SET (43_rotates_bits R251 to R256): a shared operation for each, then one meaning per row. -/

namespace Sys2Proof.Machine

/-- `BIT b,x`: Z is the complement of the bit, N 0, H 1, C kept; nothing else is written; 8 cycles, 12 for `(HL)`
(R251, R252). -/
def bitX (b : Fin 8) (x : Operand8) (s : State) : Result :=
  (s.setFlags { z := !(s.readX x).getLsbD b.val, n := false, h := true, c := s.regs.flags.c }).finish (formCycles 8 12 x)

/-- `RES b,x`: the write is issued even when the bit was 0; 8 cycles, 16 for `(HL)` (R253, R254). -/
def resX (b : Fin 8) (x : Operand8) (s : State) : Result :=
  (s.writeX x (s.readX x &&& ~~~(bitMask b))).finish (formCycles 8 16 x)

/-- `SET b,x`: 8 cycles, 16 for `(HL)` (R255, R256). -/
def setX (b : Fin 8) (x : Operand8) (s : State) : Result :=
  (s.writeX x (s.readX x ||| bitMask b)).finish (formCycles 8 16 x)

/-- `BIT 0,B` (R251). -/
def execBit_0_B (s : State) : Result := bitX 0 (.reg .b) s

/-- `BIT 0,C` (R251). -/
def execBit_0_C (s : State) : Result := bitX 0 (.reg .c) s

/-- `BIT 0,D` (R251). -/
def execBit_0_D (s : State) : Result := bitX 0 (.reg .d) s

/-- `BIT 0,E` (R251). -/
def execBit_0_E (s : State) : Result := bitX 0 (.reg .e) s

/-- `BIT 0,H` (R251). -/
def execBit_0_H (s : State) : Result := bitX 0 (.reg .h) s

/-- `BIT 0,L` (R251). -/
def execBit_0_L (s : State) : Result := bitX 0 (.reg .l) s

/-- `BIT 0,(HL)` (R252). -/
def execBit_0_mHL (s : State) : Result := bitX 0 .mHL s

/-- `BIT 0,A` (R251). -/
def execBit_0_A (s : State) : Result := bitX 0 (.reg .a) s

/-- `BIT 1,B` (R251). -/
def execBit_1_B (s : State) : Result := bitX 1 (.reg .b) s

/-- `BIT 1,C` (R251). -/
def execBit_1_C (s : State) : Result := bitX 1 (.reg .c) s

/-- `BIT 1,D` (R251). -/
def execBit_1_D (s : State) : Result := bitX 1 (.reg .d) s

/-- `BIT 1,E` (R251). -/
def execBit_1_E (s : State) : Result := bitX 1 (.reg .e) s

/-- `BIT 1,H` (R251). -/
def execBit_1_H (s : State) : Result := bitX 1 (.reg .h) s

/-- `BIT 1,L` (R251). -/
def execBit_1_L (s : State) : Result := bitX 1 (.reg .l) s

/-- `BIT 1,(HL)` (R252). -/
def execBit_1_mHL (s : State) : Result := bitX 1 .mHL s

/-- `BIT 1,A` (R251). -/
def execBit_1_A (s : State) : Result := bitX 1 (.reg .a) s

/-- `BIT 2,B` (R251). -/
def execBit_2_B (s : State) : Result := bitX 2 (.reg .b) s

/-- `BIT 2,C` (R251). -/
def execBit_2_C (s : State) : Result := bitX 2 (.reg .c) s

/-- `BIT 2,D` (R251). -/
def execBit_2_D (s : State) : Result := bitX 2 (.reg .d) s

/-- `BIT 2,E` (R251). -/
def execBit_2_E (s : State) : Result := bitX 2 (.reg .e) s

/-- `BIT 2,H` (R251). -/
def execBit_2_H (s : State) : Result := bitX 2 (.reg .h) s

/-- `BIT 2,L` (R251). -/
def execBit_2_L (s : State) : Result := bitX 2 (.reg .l) s

/-- `BIT 2,(HL)` (R252). -/
def execBit_2_mHL (s : State) : Result := bitX 2 .mHL s

/-- `BIT 2,A` (R251). -/
def execBit_2_A (s : State) : Result := bitX 2 (.reg .a) s

/-- `BIT 3,B` (R251). -/
def execBit_3_B (s : State) : Result := bitX 3 (.reg .b) s

/-- `BIT 3,C` (R251). -/
def execBit_3_C (s : State) : Result := bitX 3 (.reg .c) s

/-- `BIT 3,D` (R251). -/
def execBit_3_D (s : State) : Result := bitX 3 (.reg .d) s

/-- `BIT 3,E` (R251). -/
def execBit_3_E (s : State) : Result := bitX 3 (.reg .e) s

/-- `BIT 3,H` (R251). -/
def execBit_3_H (s : State) : Result := bitX 3 (.reg .h) s

/-- `BIT 3,L` (R251). -/
def execBit_3_L (s : State) : Result := bitX 3 (.reg .l) s

/-- `BIT 3,(HL)` (R252). -/
def execBit_3_mHL (s : State) : Result := bitX 3 .mHL s

/-- `BIT 3,A` (R251). -/
def execBit_3_A (s : State) : Result := bitX 3 (.reg .a) s

/-- `BIT 4,B` (R251). -/
def execBit_4_B (s : State) : Result := bitX 4 (.reg .b) s

/-- `BIT 4,C` (R251). -/
def execBit_4_C (s : State) : Result := bitX 4 (.reg .c) s

/-- `BIT 4,D` (R251). -/
def execBit_4_D (s : State) : Result := bitX 4 (.reg .d) s

/-- `BIT 4,E` (R251). -/
def execBit_4_E (s : State) : Result := bitX 4 (.reg .e) s

/-- `BIT 4,H` (R251). -/
def execBit_4_H (s : State) : Result := bitX 4 (.reg .h) s

/-- `BIT 4,L` (R251). -/
def execBit_4_L (s : State) : Result := bitX 4 (.reg .l) s

/-- `BIT 4,(HL)` (R252). -/
def execBit_4_mHL (s : State) : Result := bitX 4 .mHL s

/-- `BIT 4,A` (R251). -/
def execBit_4_A (s : State) : Result := bitX 4 (.reg .a) s

/-- `BIT 5,B` (R251). -/
def execBit_5_B (s : State) : Result := bitX 5 (.reg .b) s

/-- `BIT 5,C` (R251). -/
def execBit_5_C (s : State) : Result := bitX 5 (.reg .c) s

/-- `BIT 5,D` (R251). -/
def execBit_5_D (s : State) : Result := bitX 5 (.reg .d) s

/-- `BIT 5,E` (R251). -/
def execBit_5_E (s : State) : Result := bitX 5 (.reg .e) s

/-- `BIT 5,H` (R251). -/
def execBit_5_H (s : State) : Result := bitX 5 (.reg .h) s

/-- `BIT 5,L` (R251). -/
def execBit_5_L (s : State) : Result := bitX 5 (.reg .l) s

/-- `BIT 5,(HL)` (R252). -/
def execBit_5_mHL (s : State) : Result := bitX 5 .mHL s

/-- `BIT 5,A` (R251). -/
def execBit_5_A (s : State) : Result := bitX 5 (.reg .a) s

/-- `BIT 6,B` (R251). -/
def execBit_6_B (s : State) : Result := bitX 6 (.reg .b) s

/-- `BIT 6,C` (R251). -/
def execBit_6_C (s : State) : Result := bitX 6 (.reg .c) s

/-- `BIT 6,D` (R251). -/
def execBit_6_D (s : State) : Result := bitX 6 (.reg .d) s

/-- `BIT 6,E` (R251). -/
def execBit_6_E (s : State) : Result := bitX 6 (.reg .e) s

/-- `BIT 6,H` (R251). -/
def execBit_6_H (s : State) : Result := bitX 6 (.reg .h) s

/-- `BIT 6,L` (R251). -/
def execBit_6_L (s : State) : Result := bitX 6 (.reg .l) s

/-- `BIT 6,(HL)` (R252). -/
def execBit_6_mHL (s : State) : Result := bitX 6 .mHL s

/-- `BIT 6,A` (R251). -/
def execBit_6_A (s : State) : Result := bitX 6 (.reg .a) s

/-- `BIT 7,B` (R251). -/
def execBit_7_B (s : State) : Result := bitX 7 (.reg .b) s

/-- `BIT 7,C` (R251). -/
def execBit_7_C (s : State) : Result := bitX 7 (.reg .c) s

/-- `BIT 7,D` (R251). -/
def execBit_7_D (s : State) : Result := bitX 7 (.reg .d) s

/-- `BIT 7,E` (R251). -/
def execBit_7_E (s : State) : Result := bitX 7 (.reg .e) s

/-- `BIT 7,H` (R251). -/
def execBit_7_H (s : State) : Result := bitX 7 (.reg .h) s

/-- `BIT 7,L` (R251). -/
def execBit_7_L (s : State) : Result := bitX 7 (.reg .l) s

/-- `BIT 7,(HL)` (R252). -/
def execBit_7_mHL (s : State) : Result := bitX 7 .mHL s

/-- `BIT 7,A` (R251). -/
def execBit_7_A (s : State) : Result := bitX 7 (.reg .a) s

/-- `RES 0,B` (R253). -/
def execRes_0_B (s : State) : Result := resX 0 (.reg .b) s

/-- `RES 0,C` (R253). -/
def execRes_0_C (s : State) : Result := resX 0 (.reg .c) s

/-- `RES 0,D` (R253). -/
def execRes_0_D (s : State) : Result := resX 0 (.reg .d) s

/-- `RES 0,E` (R253). -/
def execRes_0_E (s : State) : Result := resX 0 (.reg .e) s

/-- `RES 0,H` (R253). -/
def execRes_0_H (s : State) : Result := resX 0 (.reg .h) s

/-- `RES 0,L` (R253). -/
def execRes_0_L (s : State) : Result := resX 0 (.reg .l) s

/-- `RES 0,(HL)` (R254). -/
def execRes_0_mHL (s : State) : Result := resX 0 .mHL s

/-- `RES 0,A` (R253). -/
def execRes_0_A (s : State) : Result := resX 0 (.reg .a) s

/-- `RES 1,B` (R253). -/
def execRes_1_B (s : State) : Result := resX 1 (.reg .b) s

/-- `RES 1,C` (R253). -/
def execRes_1_C (s : State) : Result := resX 1 (.reg .c) s

/-- `RES 1,D` (R253). -/
def execRes_1_D (s : State) : Result := resX 1 (.reg .d) s

/-- `RES 1,E` (R253). -/
def execRes_1_E (s : State) : Result := resX 1 (.reg .e) s

/-- `RES 1,H` (R253). -/
def execRes_1_H (s : State) : Result := resX 1 (.reg .h) s

/-- `RES 1,L` (R253). -/
def execRes_1_L (s : State) : Result := resX 1 (.reg .l) s

/-- `RES 1,(HL)` (R254). -/
def execRes_1_mHL (s : State) : Result := resX 1 .mHL s

/-- `RES 1,A` (R253). -/
def execRes_1_A (s : State) : Result := resX 1 (.reg .a) s

/-- `RES 2,B` (R253). -/
def execRes_2_B (s : State) : Result := resX 2 (.reg .b) s

/-- `RES 2,C` (R253). -/
def execRes_2_C (s : State) : Result := resX 2 (.reg .c) s

/-- `RES 2,D` (R253). -/
def execRes_2_D (s : State) : Result := resX 2 (.reg .d) s

/-- `RES 2,E` (R253). -/
def execRes_2_E (s : State) : Result := resX 2 (.reg .e) s

/-- `RES 2,H` (R253). -/
def execRes_2_H (s : State) : Result := resX 2 (.reg .h) s

/-- `RES 2,L` (R253). -/
def execRes_2_L (s : State) : Result := resX 2 (.reg .l) s

/-- `RES 2,(HL)` (R254). -/
def execRes_2_mHL (s : State) : Result := resX 2 .mHL s

/-- `RES 2,A` (R253). -/
def execRes_2_A (s : State) : Result := resX 2 (.reg .a) s

/-- `RES 3,B` (R253). -/
def execRes_3_B (s : State) : Result := resX 3 (.reg .b) s

/-- `RES 3,C` (R253). -/
def execRes_3_C (s : State) : Result := resX 3 (.reg .c) s

/-- `RES 3,D` (R253). -/
def execRes_3_D (s : State) : Result := resX 3 (.reg .d) s

/-- `RES 3,E` (R253). -/
def execRes_3_E (s : State) : Result := resX 3 (.reg .e) s

/-- `RES 3,H` (R253). -/
def execRes_3_H (s : State) : Result := resX 3 (.reg .h) s

/-- `RES 3,L` (R253). -/
def execRes_3_L (s : State) : Result := resX 3 (.reg .l) s

/-- `RES 3,(HL)` (R254). -/
def execRes_3_mHL (s : State) : Result := resX 3 .mHL s

/-- `RES 3,A` (R253). -/
def execRes_3_A (s : State) : Result := resX 3 (.reg .a) s

/-- `RES 4,B` (R253). -/
def execRes_4_B (s : State) : Result := resX 4 (.reg .b) s

/-- `RES 4,C` (R253). -/
def execRes_4_C (s : State) : Result := resX 4 (.reg .c) s

/-- `RES 4,D` (R253). -/
def execRes_4_D (s : State) : Result := resX 4 (.reg .d) s

/-- `RES 4,E` (R253). -/
def execRes_4_E (s : State) : Result := resX 4 (.reg .e) s

/-- `RES 4,H` (R253). -/
def execRes_4_H (s : State) : Result := resX 4 (.reg .h) s

/-- `RES 4,L` (R253). -/
def execRes_4_L (s : State) : Result := resX 4 (.reg .l) s

/-- `RES 4,(HL)` (R254). -/
def execRes_4_mHL (s : State) : Result := resX 4 .mHL s

/-- `RES 4,A` (R253). -/
def execRes_4_A (s : State) : Result := resX 4 (.reg .a) s

/-- `RES 5,B` (R253). -/
def execRes_5_B (s : State) : Result := resX 5 (.reg .b) s

/-- `RES 5,C` (R253). -/
def execRes_5_C (s : State) : Result := resX 5 (.reg .c) s

/-- `RES 5,D` (R253). -/
def execRes_5_D (s : State) : Result := resX 5 (.reg .d) s

/-- `RES 5,E` (R253). -/
def execRes_5_E (s : State) : Result := resX 5 (.reg .e) s

/-- `RES 5,H` (R253). -/
def execRes_5_H (s : State) : Result := resX 5 (.reg .h) s

/-- `RES 5,L` (R253). -/
def execRes_5_L (s : State) : Result := resX 5 (.reg .l) s

/-- `RES 5,(HL)` (R254). -/
def execRes_5_mHL (s : State) : Result := resX 5 .mHL s

/-- `RES 5,A` (R253). -/
def execRes_5_A (s : State) : Result := resX 5 (.reg .a) s

/-- `RES 6,B` (R253). -/
def execRes_6_B (s : State) : Result := resX 6 (.reg .b) s

/-- `RES 6,C` (R253). -/
def execRes_6_C (s : State) : Result := resX 6 (.reg .c) s

/-- `RES 6,D` (R253). -/
def execRes_6_D (s : State) : Result := resX 6 (.reg .d) s

/-- `RES 6,E` (R253). -/
def execRes_6_E (s : State) : Result := resX 6 (.reg .e) s

/-- `RES 6,H` (R253). -/
def execRes_6_H (s : State) : Result := resX 6 (.reg .h) s

/-- `RES 6,L` (R253). -/
def execRes_6_L (s : State) : Result := resX 6 (.reg .l) s

/-- `RES 6,(HL)` (R254). -/
def execRes_6_mHL (s : State) : Result := resX 6 .mHL s

/-- `RES 6,A` (R253). -/
def execRes_6_A (s : State) : Result := resX 6 (.reg .a) s

/-- `RES 7,B` (R253). -/
def execRes_7_B (s : State) : Result := resX 7 (.reg .b) s

/-- `RES 7,C` (R253). -/
def execRes_7_C (s : State) : Result := resX 7 (.reg .c) s

/-- `RES 7,D` (R253). -/
def execRes_7_D (s : State) : Result := resX 7 (.reg .d) s

/-- `RES 7,E` (R253). -/
def execRes_7_E (s : State) : Result := resX 7 (.reg .e) s

/-- `RES 7,H` (R253). -/
def execRes_7_H (s : State) : Result := resX 7 (.reg .h) s

/-- `RES 7,L` (R253). -/
def execRes_7_L (s : State) : Result := resX 7 (.reg .l) s

/-- `RES 7,(HL)` (R254). -/
def execRes_7_mHL (s : State) : Result := resX 7 .mHL s

/-- `RES 7,A` (R253). -/
def execRes_7_A (s : State) : Result := resX 7 (.reg .a) s

/-- `SET 0,B` (R255). -/
def execSet_0_B (s : State) : Result := setX 0 (.reg .b) s

/-- `SET 0,C` (R255). -/
def execSet_0_C (s : State) : Result := setX 0 (.reg .c) s

/-- `SET 0,D` (R255). -/
def execSet_0_D (s : State) : Result := setX 0 (.reg .d) s

/-- `SET 0,E` (R255). -/
def execSet_0_E (s : State) : Result := setX 0 (.reg .e) s

/-- `SET 0,H` (R255). -/
def execSet_0_H (s : State) : Result := setX 0 (.reg .h) s

/-- `SET 0,L` (R255). -/
def execSet_0_L (s : State) : Result := setX 0 (.reg .l) s

/-- `SET 0,(HL)` (R256). -/
def execSet_0_mHL (s : State) : Result := setX 0 .mHL s

/-- `SET 0,A` (R255). -/
def execSet_0_A (s : State) : Result := setX 0 (.reg .a) s

/-- `SET 1,B` (R255). -/
def execSet_1_B (s : State) : Result := setX 1 (.reg .b) s

/-- `SET 1,C` (R255). -/
def execSet_1_C (s : State) : Result := setX 1 (.reg .c) s

/-- `SET 1,D` (R255). -/
def execSet_1_D (s : State) : Result := setX 1 (.reg .d) s

/-- `SET 1,E` (R255). -/
def execSet_1_E (s : State) : Result := setX 1 (.reg .e) s

/-- `SET 1,H` (R255). -/
def execSet_1_H (s : State) : Result := setX 1 (.reg .h) s

/-- `SET 1,L` (R255). -/
def execSet_1_L (s : State) : Result := setX 1 (.reg .l) s

/-- `SET 1,(HL)` (R256). -/
def execSet_1_mHL (s : State) : Result := setX 1 .mHL s

/-- `SET 1,A` (R255). -/
def execSet_1_A (s : State) : Result := setX 1 (.reg .a) s

/-- `SET 2,B` (R255). -/
def execSet_2_B (s : State) : Result := setX 2 (.reg .b) s

/-- `SET 2,C` (R255). -/
def execSet_2_C (s : State) : Result := setX 2 (.reg .c) s

/-- `SET 2,D` (R255). -/
def execSet_2_D (s : State) : Result := setX 2 (.reg .d) s

/-- `SET 2,E` (R255). -/
def execSet_2_E (s : State) : Result := setX 2 (.reg .e) s

/-- `SET 2,H` (R255). -/
def execSet_2_H (s : State) : Result := setX 2 (.reg .h) s

/-- `SET 2,L` (R255). -/
def execSet_2_L (s : State) : Result := setX 2 (.reg .l) s

/-- `SET 2,(HL)` (R256). -/
def execSet_2_mHL (s : State) : Result := setX 2 .mHL s

/-- `SET 2,A` (R255). -/
def execSet_2_A (s : State) : Result := setX 2 (.reg .a) s

/-- `SET 3,B` (R255). -/
def execSet_3_B (s : State) : Result := setX 3 (.reg .b) s

/-- `SET 3,C` (R255). -/
def execSet_3_C (s : State) : Result := setX 3 (.reg .c) s

/-- `SET 3,D` (R255). -/
def execSet_3_D (s : State) : Result := setX 3 (.reg .d) s

/-- `SET 3,E` (R255). -/
def execSet_3_E (s : State) : Result := setX 3 (.reg .e) s

/-- `SET 3,H` (R255). -/
def execSet_3_H (s : State) : Result := setX 3 (.reg .h) s

/-- `SET 3,L` (R255). -/
def execSet_3_L (s : State) : Result := setX 3 (.reg .l) s

/-- `SET 3,(HL)` (R256). -/
def execSet_3_mHL (s : State) : Result := setX 3 .mHL s

/-- `SET 3,A` (R255). -/
def execSet_3_A (s : State) : Result := setX 3 (.reg .a) s

/-- `SET 4,B` (R255). -/
def execSet_4_B (s : State) : Result := setX 4 (.reg .b) s

/-- `SET 4,C` (R255). -/
def execSet_4_C (s : State) : Result := setX 4 (.reg .c) s

/-- `SET 4,D` (R255). -/
def execSet_4_D (s : State) : Result := setX 4 (.reg .d) s

/-- `SET 4,E` (R255). -/
def execSet_4_E (s : State) : Result := setX 4 (.reg .e) s

/-- `SET 4,H` (R255). -/
def execSet_4_H (s : State) : Result := setX 4 (.reg .h) s

/-- `SET 4,L` (R255). -/
def execSet_4_L (s : State) : Result := setX 4 (.reg .l) s

/-- `SET 4,(HL)` (R256). -/
def execSet_4_mHL (s : State) : Result := setX 4 .mHL s

/-- `SET 4,A` (R255). -/
def execSet_4_A (s : State) : Result := setX 4 (.reg .a) s

/-- `SET 5,B` (R255). -/
def execSet_5_B (s : State) : Result := setX 5 (.reg .b) s

/-- `SET 5,C` (R255). -/
def execSet_5_C (s : State) : Result := setX 5 (.reg .c) s

/-- `SET 5,D` (R255). -/
def execSet_5_D (s : State) : Result := setX 5 (.reg .d) s

/-- `SET 5,E` (R255). -/
def execSet_5_E (s : State) : Result := setX 5 (.reg .e) s

/-- `SET 5,H` (R255). -/
def execSet_5_H (s : State) : Result := setX 5 (.reg .h) s

/-- `SET 5,L` (R255). -/
def execSet_5_L (s : State) : Result := setX 5 (.reg .l) s

/-- `SET 5,(HL)` (R256). -/
def execSet_5_mHL (s : State) : Result := setX 5 .mHL s

/-- `SET 5,A` (R255). -/
def execSet_5_A (s : State) : Result := setX 5 (.reg .a) s

/-- `SET 6,B` (R255). -/
def execSet_6_B (s : State) : Result := setX 6 (.reg .b) s

/-- `SET 6,C` (R255). -/
def execSet_6_C (s : State) : Result := setX 6 (.reg .c) s

/-- `SET 6,D` (R255). -/
def execSet_6_D (s : State) : Result := setX 6 (.reg .d) s

/-- `SET 6,E` (R255). -/
def execSet_6_E (s : State) : Result := setX 6 (.reg .e) s

/-- `SET 6,H` (R255). -/
def execSet_6_H (s : State) : Result := setX 6 (.reg .h) s

/-- `SET 6,L` (R255). -/
def execSet_6_L (s : State) : Result := setX 6 (.reg .l) s

/-- `SET 6,(HL)` (R256). -/
def execSet_6_mHL (s : State) : Result := setX 6 .mHL s

/-- `SET 6,A` (R255). -/
def execSet_6_A (s : State) : Result := setX 6 (.reg .a) s

/-- `SET 7,B` (R255). -/
def execSet_7_B (s : State) : Result := setX 7 (.reg .b) s

/-- `SET 7,C` (R255). -/
def execSet_7_C (s : State) : Result := setX 7 (.reg .c) s

/-- `SET 7,D` (R255). -/
def execSet_7_D (s : State) : Result := setX 7 (.reg .d) s

/-- `SET 7,E` (R255). -/
def execSet_7_E (s : State) : Result := setX 7 (.reg .e) s

/-- `SET 7,H` (R255). -/
def execSet_7_H (s : State) : Result := setX 7 (.reg .h) s

/-- `SET 7,L` (R255). -/
def execSet_7_L (s : State) : Result := setX 7 (.reg .l) s

/-- `SET 7,(HL)` (R256). -/
def execSet_7_mHL (s : State) : Result := setX 7 .mHL s

/-- `SET 7,A` (R255). -/
def execSet_7_A (s : State) : Result := setX 7 (.reg .a) s

end Sys2Proof.Machine
end

