-- ==== Sys2Proof/Machine/Rotates.lean ====
section
/-! DEFINITION. Rotates and shifts (43_rotates_bits R230 to R250): a shared operation for each shape, then one meaning
per row. -/

namespace Sys2Proof.Machine

/-- The accumulator rotates: Z is always 0; 4 cycles (R230 to R233). -/
def rotA (op : RotOp) (s : State) : Result :=
  let r := rotate op s.regs.a s.regs.flags.c
  ((s.setReg .a r.1).setFlags (accRotateFlags r.2)).finish 4

/-- The CB rotates and shifts on `x[z]`: 8 cycles, 16 for `(HL)` (R235 to R250). -/
def rotX (op : RotOp) (x : Operand8) (s : State) : Result :=
  let r := rotate op (s.readX x) s.regs.flags.c
  ((s.writeX x r.1).setFlags (rotateFlags r.1 r.2)).finish (formCycles 8 16 x)

/-- `RLCA` (R230). -/
def execRlca (s : State) : Result := rotA .rlc s

/-- `RRCA` (R231). -/
def execRrca (s : State) : Result := rotA .rrc s

/-- `RLA` (R232). -/
def execRla (s : State) : Result := rotA .rl s

/-- `RRA` (R233). -/
def execRra (s : State) : Result := rotA .rr s

/-- `RLC B` (R235). -/
def execRlc_B (s : State) : Result := rotX .rlc (.reg .b) s

/-- `RLC C` (R235). -/
def execRlc_C (s : State) : Result := rotX .rlc (.reg .c) s

/-- `RLC D` (R235). -/
def execRlc_D (s : State) : Result := rotX .rlc (.reg .d) s

/-- `RLC E` (R235). -/
def execRlc_E (s : State) : Result := rotX .rlc (.reg .e) s

/-- `RLC H` (R235). -/
def execRlc_H (s : State) : Result := rotX .rlc (.reg .h) s

/-- `RLC L` (R235). -/
def execRlc_L (s : State) : Result := rotX .rlc (.reg .l) s

/-- `RLC (HL)` (R236). -/
def execRlc_mHL (s : State) : Result := rotX .rlc .mHL s

/-- `RLC A` (R235). -/
def execRlc_A (s : State) : Result := rotX .rlc (.reg .a) s

/-- `RRC B` (R237). -/
def execRrc_B (s : State) : Result := rotX .rrc (.reg .b) s

/-- `RRC C` (R237). -/
def execRrc_C (s : State) : Result := rotX .rrc (.reg .c) s

/-- `RRC D` (R237). -/
def execRrc_D (s : State) : Result := rotX .rrc (.reg .d) s

/-- `RRC E` (R237). -/
def execRrc_E (s : State) : Result := rotX .rrc (.reg .e) s

/-- `RRC H` (R237). -/
def execRrc_H (s : State) : Result := rotX .rrc (.reg .h) s

/-- `RRC L` (R237). -/
def execRrc_L (s : State) : Result := rotX .rrc (.reg .l) s

/-- `RRC (HL)` (R238). -/
def execRrc_mHL (s : State) : Result := rotX .rrc .mHL s

/-- `RRC A` (R237). -/
def execRrc_A (s : State) : Result := rotX .rrc (.reg .a) s

/-- `RL B` (R239). -/
def execRl_B (s : State) : Result := rotX .rl (.reg .b) s

/-- `RL C` (R239). -/
def execRl_C (s : State) : Result := rotX .rl (.reg .c) s

/-- `RL D` (R239). -/
def execRl_D (s : State) : Result := rotX .rl (.reg .d) s

/-- `RL E` (R239). -/
def execRl_E (s : State) : Result := rotX .rl (.reg .e) s

/-- `RL H` (R239). -/
def execRl_H (s : State) : Result := rotX .rl (.reg .h) s

/-- `RL L` (R239). -/
def execRl_L (s : State) : Result := rotX .rl (.reg .l) s

/-- `RL (HL)` (R240). -/
def execRl_mHL (s : State) : Result := rotX .rl .mHL s

/-- `RL A` (R239). -/
def execRl_A (s : State) : Result := rotX .rl (.reg .a) s

/-- `RR B` (R241). -/
def execRr_B (s : State) : Result := rotX .rr (.reg .b) s

/-- `RR C` (R241). -/
def execRr_C (s : State) : Result := rotX .rr (.reg .c) s

/-- `RR D` (R241). -/
def execRr_D (s : State) : Result := rotX .rr (.reg .d) s

/-- `RR E` (R241). -/
def execRr_E (s : State) : Result := rotX .rr (.reg .e) s

/-- `RR H` (R241). -/
def execRr_H (s : State) : Result := rotX .rr (.reg .h) s

/-- `RR L` (R241). -/
def execRr_L (s : State) : Result := rotX .rr (.reg .l) s

/-- `RR (HL)` (R242). -/
def execRr_mHL (s : State) : Result := rotX .rr .mHL s

/-- `RR A` (R241). -/
def execRr_A (s : State) : Result := rotX .rr (.reg .a) s

/-- `SLA B` (R243). -/
def execSla_B (s : State) : Result := rotX .sla (.reg .b) s

/-- `SLA C` (R243). -/
def execSla_C (s : State) : Result := rotX .sla (.reg .c) s

/-- `SLA D` (R243). -/
def execSla_D (s : State) : Result := rotX .sla (.reg .d) s

/-- `SLA E` (R243). -/
def execSla_E (s : State) : Result := rotX .sla (.reg .e) s

/-- `SLA H` (R243). -/
def execSla_H (s : State) : Result := rotX .sla (.reg .h) s

/-- `SLA L` (R243). -/
def execSla_L (s : State) : Result := rotX .sla (.reg .l) s

/-- `SLA (HL)` (R244). -/
def execSla_mHL (s : State) : Result := rotX .sla .mHL s

/-- `SLA A` (R243). -/
def execSla_A (s : State) : Result := rotX .sla (.reg .a) s

/-- `SRA B` (R245). -/
def execSra_B (s : State) : Result := rotX .sra (.reg .b) s

/-- `SRA C` (R245). -/
def execSra_C (s : State) : Result := rotX .sra (.reg .c) s

/-- `SRA D` (R245). -/
def execSra_D (s : State) : Result := rotX .sra (.reg .d) s

/-- `SRA E` (R245). -/
def execSra_E (s : State) : Result := rotX .sra (.reg .e) s

/-- `SRA H` (R245). -/
def execSra_H (s : State) : Result := rotX .sra (.reg .h) s

/-- `SRA L` (R245). -/
def execSra_L (s : State) : Result := rotX .sra (.reg .l) s

/-- `SRA (HL)` (R246). -/
def execSra_mHL (s : State) : Result := rotX .sra .mHL s

/-- `SRA A` (R245). -/
def execSra_A (s : State) : Result := rotX .sra (.reg .a) s

/-- `SWAP B` (R247). -/
def execSwap_B (s : State) : Result := rotX .swap (.reg .b) s

/-- `SWAP C` (R247). -/
def execSwap_C (s : State) : Result := rotX .swap (.reg .c) s

/-- `SWAP D` (R247). -/
def execSwap_D (s : State) : Result := rotX .swap (.reg .d) s

/-- `SWAP E` (R247). -/
def execSwap_E (s : State) : Result := rotX .swap (.reg .e) s

/-- `SWAP H` (R247). -/
def execSwap_H (s : State) : Result := rotX .swap (.reg .h) s

/-- `SWAP L` (R247). -/
def execSwap_L (s : State) : Result := rotX .swap (.reg .l) s

/-- `SWAP (HL)` (R248). -/
def execSwap_mHL (s : State) : Result := rotX .swap .mHL s

/-- `SWAP A` (R247). -/
def execSwap_A (s : State) : Result := rotX .swap (.reg .a) s

/-- `SRL B` (R249). -/
def execSrl_B (s : State) : Result := rotX .srl (.reg .b) s

/-- `SRL C` (R249). -/
def execSrl_C (s : State) : Result := rotX .srl (.reg .c) s

/-- `SRL D` (R249). -/
def execSrl_D (s : State) : Result := rotX .srl (.reg .d) s

/-- `SRL E` (R249). -/
def execSrl_E (s : State) : Result := rotX .srl (.reg .e) s

/-- `SRL H` (R249). -/
def execSrl_H (s : State) : Result := rotX .srl (.reg .h) s

/-- `SRL L` (R249). -/
def execSrl_L (s : State) : Result := rotX .srl (.reg .l) s

/-- `SRL (HL)` (R250). -/
def execSrl_mHL (s : State) : Result := rotX .srl .mHL s

/-- `SRL A` (R249). -/
def execSrl_A (s : State) : Result := rotX .srl (.reg .a) s

end Sys2Proof.Machine
end

