-- ==== Sys2Proof/Machine/System.lean ====
section
/-! DEFINITION. The system instructions (45_system R290 to R297): a shared operation for each shape, then one meaning per
row. -/

namespace Sys2Proof.Machine

/-- `NOP`: 4 cycles (R290). -/
def nopAct (s : State) : Result := s.finish 4

/-- `HALT`: with `IME` 0 and an interrupt pending the halt bug, else `Halted`; 4 cycles (R291). -/
def haltAct (s : State) : Result :=
  if !s.ctl.ime && decide (s.pending ≠ 0) then ({ s with ctl := { s.ctl with haltBug := true } } : State).finish 4
  else ({ s with ctl := { s.ctl with halted := true } } : State).finish 4

/-- `STOP`: the padding byte is ignored, `Stopped` is set; 4 cycles (R292). -/
def stopAct (_pad : Byte) (s : State) : Result :=
  ({ s with ctl := { s.ctl with stopped := true } } : State).finish 4

/-- `DI`: `IME` to 0 at once; 4 cycles (R293). -/
def diAct (s : State) : Result := (s.setIme false).finish 4

/-- `EI`: sets the latch `EiPending`; 4 cycles (R294). -/
def eiAct (s : State) : Result := ({ s with ctl := { s.ctl with eiPending := true } } : State).finish 4

/-- An opcode byte that selects no instruction: a 4-cycle no-op if `ILLEGAL_OPCODES` holds it (R296), else the fatal
unknown opcode (R297, 30_encoding R113, R114). DESIGN CHOICE, unsafe: only the meanings of the eleven unassigned bytes
read the set, so an assigned byte in it still runs its own instruction (notes/assumptions/21.md). -/
def illegalOpcode (op : Byte) (s : State) : Result :=
  if op ∈ s.cfg.illegalOpcodes then s.finish 4 else .fault (.fatalUnknownOpcode op s.regs.pc)

/-- The register a 3-bit code names, `(HL)` for code 6 (30_encoding R104). -/
def operandOfCode (z : Nat) : Operand8 :=
  match z with
  | 0 => .reg .b
  | 1 => .reg .c
  | 2 => .reg .d
  | 3 => .reg .e
  | 4 => .reg .h
  | 5 => .reg .l
  | 6 => .mHL
  | _ => .reg .a

/-- The rotate or shift of a 3-bit operation code (30_encoding R102). -/
def rotOpOfCode (y : Nat) : RotOp :=
  match y with
  | 0 => .rlc
  | 1 => .rrc
  | 2 => .rl
  | 3 => .rr
  | 4 => .sla
  | 5 => .sra
  | 6 => .swap
  | _ => .srl

/-- The operation a CB-opcode byte selects, by its fields `x`, `y`, `z` (30_encoding R102). -/
def cbOperation (op2 : Byte) (s : State) : Result :=
  let x := operandOfCode (op2.toNat % 8)
  let b : Fin 8 := Fin.ofNat 8 (op2.toNat / 8)
  match op2.toNat / 64 with
  | 0 => rotX (rotOpOfCode (op2.toNat / 8 % 8)) x s
  | 1 => bitX b x s
  | 2 => resX b x s
  | _ => setX b x s

/-- The `CB` prefix: `op2 <- Fetch8()`, then the operation `op2` selects, with that operation's cycles (R295). -/
def prefixAct (s : State) : Result := cbOperation s.fetch8.1 s.fetch8.2

/-- `NOP` (R290). -/
def execNop (s : State) : Result := nopAct s

/-- `STOP` (R292). -/
def execStop (pad : Byte) (s : State) : Result := stopAct pad s

/-- `HALT` (R291). -/
def execHalt (s : State) : Result := haltAct s

/-- `PREFIX CB` (R295). -/
def execPrefix_CB (s : State) : Result := prefixAct s

/-- `ILLEGAL 0xD3` (R296). -/
def execIllegal_D3 (s : State) : Result := illegalOpcode 0xD3 s

/-- `ILLEGAL 0xDB` (R296). -/
def execIllegal_DB (s : State) : Result := illegalOpcode 0xDB s

/-- `ILLEGAL 0xDD` (R296). -/
def execIllegal_DD (s : State) : Result := illegalOpcode 0xDD s

/-- `ILLEGAL 0xE3` (R296). -/
def execIllegal_E3 (s : State) : Result := illegalOpcode 0xE3 s

/-- `ILLEGAL 0xE4` (R296). -/
def execIllegal_E4 (s : State) : Result := illegalOpcode 0xE4 s

/-- `ILLEGAL 0xEB` (R296). -/
def execIllegal_EB (s : State) : Result := illegalOpcode 0xEB s

/-- `ILLEGAL 0xEC` (R296). -/
def execIllegal_EC (s : State) : Result := illegalOpcode 0xEC s

/-- `ILLEGAL 0xED` (R296). -/
def execIllegal_ED (s : State) : Result := illegalOpcode 0xED s

/-- `DI` (R293). -/
def execDi (s : State) : Result := diAct s

/-- `ILLEGAL 0xF4` (R296). -/
def execIllegal_F4 (s : State) : Result := illegalOpcode 0xF4 s

/-- `EI` (R294). -/
def execEi (s : State) : Result := eiAct s

/-- `ILLEGAL 0xFC` (R296). -/
def execIllegal_FC (s : State) : Result := illegalOpcode 0xFC s

/-- `ILLEGAL 0xFD` (R296). -/
def execIllegal_FD (s : State) : Result := illegalOpcode 0xFD s

end Sys2Proof.Machine
end

