-- ==== Sys2Proof/Machine/HostActions.lean ====
section
/-! DEFINITION. What the host may do, and only between system steps (00_scope R3): the `SetButton` calls of the input
queue, and restoring a captured state (70_reset R414). -/

namespace Sys2Proof.Machine

/-- What the host does before the next system step: the `SetButton` calls at the head of `inputs`, in order
(00_scope R3, 92_eei D26, D31; notes/assumptions/6.md). -/
def State.hostActions (s : State) : State :=
  match s.inputs with
  | [] => s
  | evs :: rest => evs.foldl (fun t ev => t.setButton ev) { s with inputs := rest }

/-- Restore a captured state: a snapshot that was rejected (`none`) changes nothing (70_reset R414). A state holds the
whole capture, the mapper's state too; the launch parameters and the host's future inputs are not part of it (notes/assumptions/17.md). -/
def State.restore (snapshot : Option State) (s : State) : State :=
  match snapshot with
  | none => s
  | some t => { t with cfg := s.cfg, inputs := s.inputs }

end Sys2Proof.Machine
end

