-- ==== Sys2Proof/Machine/SystemStep.lean ====
section
/-! DEFINITION. The `Step()` algorithm (60_exceptions R318), the replay of its cycles into the devices (00_scope R1,
R2), the system step made of both, and placing an instruction where the next step fetches it. -/

namespace Sys2Proof.Machine

/-- Step 5: fetch one instruction and execute it (60_exceptions R323). The decoder's last arm is 45_system R297's; no byte
reaches it. DESIGN CHOICE, safe: that arm reports `PC` before the opcode fetch, where R297 does not say which `PC`
(notes/assumptions/10.md). -/
def State.runInstruction (s : State) : Result :=
  match s.fetchInstr with
  | .ok (i, t) => exec i t
  | .error _ => .fault (.fatalUnknownOpcode (s.read s.regs.pc) s.regs.pc)

/-- Steps 2 to 5 of `Step()`, mutually exclusive: dispatch (R320; with `IF` bit 0 set at power-on the first `EI` with `IE`
bit 0 set dispatches at once, 70_reset R410 item 1), wake without service (R321), idle (R322), one instruction (R323). -/
def State.cpuAct (s : State) : Result :=
  if s.pending ≠ 0 ∧ s.ctl.ime = true then .next s.dispatchInterrupt
  else if s.pending ≠ 0 ∧ s.ctl.halted = true then
    ({ s with ctl := { s.ctl with halted := false } } : State).finish s.cfg.haltWakeCycles
  else if s.ctl.halted = true then s.finish 4
  else s.runInstruction

/-- `Step()` (60_exceptions R318). The count it returns is left in `cycles`; `Stopped` is not read (92_eei D5). DEDUCED,
unsafe: after `EI` with an interrupt already pending the next `Step()` dispatches, as R318, R319, 45_system R294 and
90_conflicts C2 have it, so a `HALT` that follows has not run and no halt bug triggers, where 70_reset R420 and 45_system
R291 (b) say that it does (notes/assumptions/22.md). -/
def State.cpuStep (s : State) : Result := s.promoteEi.cpuAct

/-- One T-cycle delivered to the devices: PPU, timer, DMA countdown, in that order (00_scope R1, 92_eei D8). -/
def State.tickDevices (s : State) : State := s.ppuTick.timerTick.dmaTick

/-- Replay `n` T-cycles, one at a time (00_scope R1). -/
def State.replay : Nat → State → State
  | 0, s => s
  | n + 1, s => State.replay n s.tickDevices

/-- The system step: what the host does between steps, one `Step()`, then its cycles replayed (00_scope R1, R2, R3). -/
def State.systemStep (s : State) : Result :=
  match s.hostActions.cpuStep with
  | .next t => .next (t.replay t.cycles)
  | .fault r => .fault r
  | .refused r => .refused r

/-- Put a byte into the storage behind an address; where there is none (cartridge RAM, unusable, a named I/O register)
nothing happens. -/
def State.placeByte (a : Word) (v : Byte) (s : State) : State :=
  match region a with
  | .echo => s.store (a.toNat - 0x2000) v
  | .ie => { s with ie := v }
  | _ => if isStorage a.toNat then s.store a.toNat v else s

/-- Put bytes at consecutive addresses. -/
def State.placeBytes (a : Word) (bytes : List Byte) (s : State) : State :=
  match bytes with
  | [] => s
  | v :: rest => State.placeBytes (a + 1) rest (s.placeByte a v)

/-- Let the next step fetch: not halted, no halt bug, and no dispatch where the host's actions leave an interrupt
pending (60_exceptions R318). -/
def State.readyToFetch (s : State) : State :=
  let dispatches := decide (s.hostActions.pending ≠ 0)
  { s with
    ctl := { s.ctl with
      halted := false
      haltBug := false
      ime := s.ctl.ime && !dispatches
      eiPending := s.ctl.eiPending && !dispatches } }

/-- The state whose next step runs the instruction of a table row's word, placed at `PC` (notes/assumptions/3.md, 12.md). -/
def State.placeInstruction (nbits w : Nat) (s : State) : State :=
  State.readyToFetch (s.placeBytes s.regs.pc (tableBytes nbits w))

end Sys2Proof.Machine
end

