-- ==== Sys2Proof/Machine/Step.lean ====
section
/-! DEFINITION. The machine's step, and placing an instruction where it fetches its next one. -/

namespace Sys2Proof.Machine

/-- One system step (00_scope R1). -/
def step (s : State) : Host.Outcome State Fault Refusal := s.systemStep

/-- `s` with the instruction of a table row's word where the next step fetches. -/
def State.withFetchWord (s : State) (nbits w : Nat) : State := s.placeInstruction nbits w

end Sys2Proof.Machine
end

