-- ==== Sys2Proof/Safety.lean ====
section
/-! DEFINITION. What the whole-machine statements are about: the properties of a state that the rules say hold in every
run, and the instructions that have the whole-machine effects the rules reserve for them. -/

namespace Sys2Proof.Machine

/-- Memory in its canonical form, listing only addresses that have storage (10_state R28). -/
def State.memoryCanonical (s : State) : Prop := Memory.wf s.mem ∧ ∀ c ∈ s.mem, isStorage c.1 = true

/-- The frame buffer in its canonical form: 160 cells to a line, lines 0..143 (10_state R25). -/
def State.frameBufferCanonical (s : State) : Prop := FrameBuffer.wf s.fb

/-- "STAT bits 1..0 always equal mode" (60_exceptions R362, 90_conflicts C8). -/
def State.statMirrorsMode (s : State) : Prop := s.lcd.stat.extractLsb' 0 2 = s.ppu.mode.code

/-- LY is 0..153, and at most 143 outside VBlank (10_state R24, 60_exceptions R366). -/
def State.lyInRange (s : State) : Prop :=
  s.lcd.ly.toNat ≤ 153 ∧ (s.ppu.mode ≠ .vBlank → s.lcd.ly.toNat ≤ 143)

/-- The Drawing length is 172 plus the penalty of at most ten sprites (60_exceptions R364, R365). -/
def State.drawLenInRange (s : State) : Prop :=
  172 ≤ s.ppu.drawLen ∧ s.ppu.drawLen ≤ 172 + 10 * s.cfg.spriteDrawPenalty

/-- Never halted with the halt bug set: `HALT` does one or the other (45_system R291, 10_state R17, R18). -/
def State.haltExclusive (s : State) : Prop := ¬ (s.ctl.halted = true ∧ s.ctl.haltBug = true)

/-- Whether no byte list at `PC` can end the run: every one of the eleven illegal opcodes is a no-op (30_encoding R113). -/
def State.allIllegalAreNoOps (s : State) : Prop := ∀ r ∈ Instr.illegalRows, r.1 ∈ s.cfg.illegalOpcodes

/-- The invariant of a run: everything above that the rules say holds in every state a run reaches. -/
structure State.Inv (s : State) : Prop where
  memory : s.memoryCanonical
  frameBuffer : s.frameBufferCanonical
  stat : s.statMirrorsMode
  ly : s.lyInRange
  drawLen : s.drawLenInRange
  halt : s.haltExclusive

/-- The number under which the byte at an address is stored: echo RAM is work RAM (20_memory R57), every other address is
itself. -/
def storageAddress (a : Word) : Nat := if region a = .echo then a.toNat - 0x2000 else a.toNat

/-- Whether a write to an address is the store of one byte and nothing more: accepted RAM, echo RAM, OAM, unnamed I/O and
high RAM (20_memory R51, R74). The named I/O registers and `IE` have rules of their own. -/
def State.storesByte (s : State) (a : Word) : Bool :=
  match region a with
  | .vram => !s.vramBlocked
  | .wram => true
  | .echo => true
  | .oam => !s.oamBlocked
  | .hram => true
  | .io => decide (ioReg a = .plain)
  | .rom => false
  | .cartRam => false
  | .unusable => false
  | .ie => false

/-- Whether a write to an address is dropped (20_memory R51, R52, R54, R59, R63 to R65); another mapper takes the writes to
ROM and cartridge RAM. -/
def State.dropsWrite (s : State) (a : Word) : Bool :=
  match region a with
  | .rom => decide (s.cfg.mapper = .noMapper)
  | .cartRam => decide (s.cfg.mapper = .noMapper)
  | .unusable => true
  | .vram => s.vramBlocked
  | .oam => s.oamBlocked
  | .wram => false
  | .echo => false
  | .hram => false
  | .io => false
  | .ie => false

/-- The value of a packed-BCD byte: tens in the high nibble, ones in the low one (41_alu8 R189). -/
def bcdValue (v : Byte) : Nat := 10 * (v.toNat / 16) + v.toNat % 16

/-- Both nibbles are decimal digits (41_alu8 R189). -/
def isBcd (v : Byte) : Prop := v.toNat / 16 ≤ 9 ∧ v.toNat % 16 ≤ 9

end Sys2Proof.Machine

namespace Sys2Proof

/-- The instructions of the table of flag writers (10_state R13), and the lone prefix, which can be one of them. -/
def Instr.writesFlags (i : Instr) : Prop :=
  (∃ op x, i = .alu op x) ∨ (∃ op n, i = .aluN8 op n) ∨ (∃ x, i = .incX x) ∨ (∃ x, i = .decX x) ∨
  i ∈ [Instr.daa, .cpl, .scf, .ccf, .rlca, .rrca, .rla, .rra, .pop_AF, .prefix_CB] ∨ (∃ p, i = .addHlRr p) ∨
  (∃ e, i = .add_SP_e8 e) ∨ (∃ e, i = .ld_HL_SPe8 e) ∨ (∃ op x, i = .rot op x) ∨ (∃ b x, i = .bit b x)

/-- The control transfers (44_control), and the lone prefix, which fetches one more byte. -/
def Instr.writesPc (i : Instr) : Prop :=
  (∃ a, i = .jp_a16 a) ∨ (∃ cc a, i = .jpCc cc a) ∨ (∃ e, i = .jr_e8 e) ∨ (∃ cc e, i = .jrCc cc e) ∨
  (∃ a, i = .call_a16 a) ∨ (∃ cc a, i = .callCc cc a) ∨ (∃ cc, i = .retCc cc) ∨ (∃ n, i = .rst n) ∨
  i ∈ [Instr.jp_HL, .ret, .reti, .prefix_CB]

/-- The instructions that write `SP` (10_state R14). -/
def Instr.writesSp (i : Instr) : Prop :=
  (∃ n, i = .ld_SP_n16 n) ∨ (∃ e, i = .add_SP_e8 e) ∨ (∃ p, i = .push p) ∨ (∃ p, i = .pop p) ∨
  (∃ a, i = .call_a16 a) ∨ (∃ cc a, i = .callCc cc a) ∨ (∃ cc, i = .retCc cc) ∨ (∃ n, i = .rst n) ∨
  i ∈ [Instr.ld_SP_HL, .inc_SP, .dec_SP, .ret, .reti]

/-- The instructions that write a control flip-flop (10_state R16 to R20). -/
def Instr.writesCtl (i : Instr) : Prop := i ∈ [Instr.halt, .di, .ei, .reti] ∨ ∃ pad, i = .stop pad

end Sys2Proof
end

