-- ==== Sys2Proof/Certificates/Slice0/Obligations.lean ====
section
/-! DEFINITION. The statements for the provers. `exec` runs an instruction on the state whose `PC` is already past all the
instruction's bytes (10_state R15): `Obligations.StepRunsDecodedInstruction` ties it to a step. A result statement is one
equation `exec i s = .next t`: it says that the instruction completes in every state, every field it writes, the cycles it
returns, and that every field `t` does not change stays (the frame). The encodings and cycle counts are those of the
numbered rules, which mark them as general knowledge (notes/assumptions/18.md). -/

open Sys2Proof Sys2Proof.Machine

/-! ### Encoding -/

/-- Words written out bit by bit from 30_encoding sections 1 and 5, one or more for every family. -/
def Obligations.DecodeSampleWords : Prop :=
  decode [0b01000001] = .ok (.ld_B_C, []) ∧
  decode [0b00010110, 0x7F] = .ok (.ld_D_n8 0x7F, []) ∧
  decode [0b11101010, 0x34, 0xC2] = .ok (.ld_ma16_A 0xC234, []) ∧
  decode [0b10011100] = .ok (.sbc_A_H, []) ∧
  decode [0b11111110, 0x3C] = .ok (.cp_n8 0x3C, []) ∧
  decode [0b00110101] = .ok (.dec_mHL, []) ∧
  decode [0b00100001, 0x34, 0x12] = .ok (.ld_HL_n16 0x1234, []) ∧
  decode [0b11110001] = .ok (.pop_AF, []) ∧
  decode [0b11001011, 0b00011011] = .ok (.rr_E, []) ∧
  decode [0b11001011, 0b01100101] = .ok (.bit_4_L, []) ∧
  decode [0b11001011, 0b11111110] = .ok (.set_7_mHL, []) ∧
  decode [0b11011010, 0x34, 0x12] = .ok (.jp_C_a16 0x1234, []) ∧
  decode [0b11101111] = .ok (.rst_28H, []) ∧
  decode [0b01110110] = .ok (.halt, []) ∧
  decode [0b00010000, 0x5A] = .ok (.stop 0x5A, [])

/-- Decoding the bytes of a whole instruction, whatever follows them, gives the instruction and what follows. -/
def Obligations.DecodeInvertsEncode : Prop :=
  ∀ (i : Instr) (rest : List Byte), i.wellFormed = true → decode (encode i ++ rest) = .ok (i, rest)

/-- Every byte list has one reading: the bytes a decoded instruction was read from are its encoding. -/
def Obligations.EncodeInvertsDecode : Prop :=
  ∀ (bytes : List Byte) (i : Instr) (rest : List Byte), decode bytes = .ok (i, rest) → encode i ++ rest = bytes

/-- Every opcode and every CB-opcode is assigned, an instruction is 1 to 3 bytes long, and the opcode alone fixes the
length (30_encoding R100, R114; that `STOP` has two bytes and an illegal opcode one are the spec's own choices, 92_eei D5,
D6). -/
def Obligations.EveryOpcodeDecodes : Prop :=
  (∀ op b c : Byte, ∃ (i : Instr) (rest : List Byte), decode [op, b, c] = .ok (i, rest) ∧ i.wellFormed = true ∧
    rest.length ≤ 2 ∧ ∀ b' c' : Byte, ∃ (j : Instr) (rest' : List Byte), decode [op, b', c'] = .ok (j, rest') ∧
      rest'.length = rest.length) ∧
  ∀ (op2 : Byte) (rest : List Byte), ∃ i : Instr, decode (0xCB :: op2 :: rest) = .ok (i, rest) ∧ i.wellFormed = true

/-! ### Registers -/

/-- The register file: an 8-bit register is written alone; in the pair views the first-named register is the high byte and
writing a pair writes both halves and nothing else; the stack's `BC`, `DE` and `HL` are those views; the low four bits of
`F` read as 0 and drop what is written to them, also through `AF`; operand code 6 is the byte at `HL`, any other a register
(10_state R11, R12, 30_encoding R104). -/
def Obligations.RegisterFile : Prop :=
  ∀ (s : State) (v : Word) (f : Byte) (r : Reg8),
    (∀ q : Reg8, (s.setReg r f).getReg q = if q = r then f else s.getReg q) ∧
    (s.setReg r f = { s with regs := (s.setReg r f).regs } ∧ (s.setReg r f).regs.flags = s.regs.flags ∧
      (s.setReg r f).regs.sp = s.regs.sp ∧ (s.setReg r f).regs.pc = s.regs.pc) ∧
    s.getReg .a = s.regs.a ∧ s.getReg .b = s.regs.b ∧ s.getReg .c = s.regs.c ∧ s.getReg .d = s.regs.d ∧
    s.getReg .e = s.regs.e ∧ s.getReg .h = s.regs.h ∧ s.getReg .l = s.regs.l ∧
    s.readX (.reg r) = s.getReg r ∧ s.writeX (.reg r) f = s.setReg r f ∧
    s.readX .mHL = s.read (s.regs.h ++ s.regs.l) ∧ s.writeX .mHL f = s.write (s.regs.h ++ s.regs.l) f ∧
    s.getStackPair .af = s.regs.a ++ s.regs.flags.toByte ∧ s.getStackPair .bc = s.getPair .bc ∧
    s.getStackPair .de = s.getPair .de ∧ s.getStackPair .hl = s.getPair .hl ∧ s.getPair .bc = s.regs.b ++ s.regs.c ∧
    s.getPair .de = s.regs.d ++ s.regs.e ∧ s.getPair .hl = s.regs.h ++ s.regs.l ∧ s.getPair .sp = s.regs.sp ∧
    s.setPair .bc v = { s with regs := { s.regs with b := v.extractLsb' 8 8, c := v.extractLsb' 0 8 } } ∧
    s.setPair .de v = { s with regs := { s.regs with d := v.extractLsb' 8 8, e := v.extractLsb' 0 8 } } ∧
    s.setPair .hl v = { s with regs := { s.regs with h := v.extractLsb' 8 8, l := v.extractLsb' 0 8 } } ∧
    s.setPair .sp v = { s with regs := { s.regs with sp := v } } ∧
    s.setStackPair .af v =
      { s with regs := { s.regs with a := v.extractLsb' 8 8, flags := Flags.ofByte (v.extractLsb' 0 8) } } ∧
    s.setStackPair .bc v = s.setPair .bc v ∧ s.setStackPair .de v = s.setPair .de v ∧ s.setStackPair .hl v = s.setPair .hl v ∧
    (∀ p : Reg16, (s.setPair p v).getPair p = v) ∧ (s.setStackPair .af v).getStackPair .af = v &&& 0xFFF0 ∧
    (Flags.ofByte f).toByte = f &&& 0xF0 ∧ s.regs.flags.toByte &&& 0x0F = 0

/-! ### 8-bit loads -/

/-- `LD r,r'` and `LD r,n8` (40_loads8 R131, R132). -/
def Obligations.LoadRegister : Prop :=
  ∀ (dst src : Reg8) (n : Byte) (rest : List Byte) (s : State),
    decode (xyz 1 dst.code src.code :: rest) = .ok (.ldRR dst src, rest) ∧
    exec (.ldRR dst src) s = .next { s.setReg dst (s.getReg src) with cycles := 4 } ∧
    decode (xyz 0 dst.code 6 :: n :: rest) = .ok (.ldRN8 dst n, rest) ∧
    exec (.ldRN8 dst n) s = .next { s.setReg dst n with cycles := 8 }

/-- `LD r,(HL)`, `LD A,(BC)`, `LD A,(DE)`, `LD A,(a16)`, `LDH A,(C)` and `LDH A,(a8)` (40_loads8 R133, R136, R137, R140,
R142, R144): the byte the bus reads at the address, to one register; memory is unchanged. -/
def Obligations.LoadFromMemory : Prop :=
  ∀ (dst : Reg8) (n : Byte) (a : Word) (rest : List Byte) (s : State),
    decode (xyz 1 dst.code 6 :: rest) = .ok (.ldRM dst, rest) ∧
    exec (.ldRM dst) s = .next { s.setReg dst (s.read (s.regs.h ++ s.regs.l)) with cycles := 8 } ∧
    decode (0x0A :: rest) = .ok (.ld_A_mBC, rest) ∧
    exec .ld_A_mBC s = .next { s.setReg .a (s.read (s.regs.b ++ s.regs.c)) with cycles := 8 } ∧
    decode (0x1A :: rest) = .ok (.ld_A_mDE, rest) ∧
    exec .ld_A_mDE s = .next { s.setReg .a (s.read (s.regs.d ++ s.regs.e)) with cycles := 8 } ∧
    decode (0xFA :: loByte a :: hiByte a :: rest) = .ok (.ld_A_ma16 a, rest) ∧
    exec (.ld_A_ma16 a) s = .next { s.setReg .a (s.read a) with cycles := 16 } ∧
    decode (0xF2 :: rest) = .ok (.ldh_A_mC, rest) ∧
    exec .ldh_A_mC s = .next { s.setReg .a (s.read (0xFF00 + s.regs.c.setWidth 16)) with cycles := 8 } ∧
    decode (0xF0 :: n :: rest) = .ok (.ldh_A_ma8 n, rest) ∧
    exec (.ldh_A_ma8 n) s = .next { s.setReg .a (s.read (0xFF00 + n.setWidth 16)) with cycles := 12 }

/-- `LD (HL),r`, `LD (HL),n8`, `LD (BC),A`, `LD (DE),A`, `LD (a16),A`, `LDH (C),A` and `LDH (a8),A` (40_loads8 R134, R135,
R138, R139, R141, R143, R145): one bus write at the address computed from the state, no register changed. What a bus
write leaves unchanged is `Obligations.StoreFrame`, `Obligations.IoWrites` and the statements beside them. -/
def Obligations.StoreToMemory : Prop :=
  ∀ (src : Reg8) (n : Byte) (a : Word) (rest : List Byte) (s : State),
    decode (xyz 1 6 src.code :: rest) = .ok (.ldMR src, rest) ∧
    exec (.ldMR src) s = .next { s.write (s.regs.h ++ s.regs.l) (s.getReg src) with cycles := 8 } ∧
    decode (0x36 :: n :: rest) = .ok (.ld_mHL_n8 n, rest) ∧
    exec (.ld_mHL_n8 n) s = .next { s.write (s.regs.h ++ s.regs.l) n with cycles := 12 } ∧
    decode (0x02 :: rest) = .ok (.ld_mBC_A, rest) ∧
    exec .ld_mBC_A s = .next { s.write (s.regs.b ++ s.regs.c) s.regs.a with cycles := 8 } ∧
    decode (0x12 :: rest) = .ok (.ld_mDE_A, rest) ∧
    exec .ld_mDE_A s = .next { s.write (s.regs.d ++ s.regs.e) s.regs.a with cycles := 8 } ∧
    decode (0xEA :: loByte a :: hiByte a :: rest) = .ok (.ld_ma16_A a, rest) ∧
    exec (.ld_ma16_A a) s = .next { s.write a s.regs.a with cycles := 16 } ∧
    decode (0xE2 :: rest) = .ok (.ldh_mC_A, rest) ∧
    exec .ldh_mC_A s = .next { s.write (0xFF00 + s.regs.c.setWidth 16) s.regs.a with cycles := 8 } ∧
    decode (0xE0 :: n :: rest) = .ok (.ldh_ma8_A n, rest) ∧
    exec (.ldh_ma8_A n) s = .next { s.write (0xFF00 + n.setWidth 16) s.regs.a with cycles := 12 } ∧
    ∀ (b : Word) (v : Byte), (s.write b v).regs = s.regs ∧ (s.write b v).ctl = s.ctl

/-- `LD A,(HL-)`, `LD (HL-),A`, `LD A,(HL+)` and `LD (HL+),A` (40_loads8 R146 to R149): the access at the old `HL`, then
`HL` moves by one modulo 2^16, also where the bus drops the store; no flag changes. -/
def Obligations.LoadHlStep : Prop :=
  ∀ (rest : List Byte) (s : State),
    let hl : Word := s.regs.h ++ s.regs.l
    decode (0x3A :: rest) = .ok (.ld_A_mHLd, rest) ∧
    exec .ld_A_mHLd s = .next { (s.setReg .a (s.read hl)).setPair .hl (hl - 1) with cycles := 8 } ∧
    decode (0x32 :: rest) = .ok (.ld_mHLd_A, rest) ∧
    exec .ld_mHLd_A s = .next { (s.write hl s.regs.a).setPair .hl (hl - 1) with cycles := 8 } ∧
    decode (0x2A :: rest) = .ok (.ld_A_mHLi, rest) ∧
    exec .ld_A_mHLi s = .next { (s.setReg .a (s.read hl)).setPair .hl (hl + 1) with cycles := 8 } ∧
    decode (0x22 :: rest) = .ok (.ld_mHLi_A, rest) ∧
    exec .ld_mHLi_A s = .next { (s.write hl s.regs.a).setPair .hl (hl + 1) with cycles := 8 }

/-! ### 8-bit arithmetic and logic -/

/-- `ADD` and `ADC` in their register, `(HL)` and immediate forms, with the sums of `add8` (41_alu8 R160 to R166). -/
def Obligations.AddAndAdc : Prop :=
  ∀ (x : Operand8) (n : Byte) (rest : List Byte) (s : State),
    let a : Nat := s.regs.a.toNat
    let carry : Nat := if s.regs.flags.c then 1 else 0
    let after : Byte → Nat → Nat → Result := fun v c k => .next { s with
      regs := { s.regs with
        a := BitVec.ofNat 8 (a + v.toNat + c)
        flags := { z := decide ((a + v.toNat + c) % 256 = 0), n := false,
                   h := decide (a % 16 + v.toNat % 16 + c > 0xF), c := decide (a + v.toNat + c > 0xFF) } }
      cycles := k }
    decode (xyz 2 0 x.code :: rest) = .ok (.alu .add x, rest) ∧
    exec (.alu .add x) s = after (s.readX x) 0 (if x = .mHL then 8 else 4) ∧
    decode (0xC6 :: n :: rest) = .ok (.aluN8 .add n, rest) ∧ exec (.aluN8 .add n) s = after n 0 8 ∧
    decode (xyz 2 1 x.code :: rest) = .ok (.alu .adc x, rest) ∧
    exec (.alu .adc x) s = after (s.readX x) carry (if x = .mHL then 8 else 4) ∧
    decode (0xCE :: n :: rest) = .ok (.aluN8 .adc n, rest) ∧ exec (.aluN8 .adc n) s = after n carry 8

/-- `SUB`, `SBC` and `CP` in their three forms, with the differences of `sub8`; `CP` keeps `A` (41_alu8 R160, R167 to R172,
R182 to R184). -/
def Obligations.SubSbcAndCp : Prop :=
  ∀ (x : Operand8) (n : Byte) (rest : List Byte) (s : State),
    let a : Nat := s.regs.a.toNat
    let carry : Nat := if s.regs.flags.c then 1 else 0
    let flags : Byte → Nat → Flags := fun v c =>
      { z := decide (((a : Int) - v.toNat - c) % 256 = 0), n := true,
        h := decide (a % 16 < v.toNat % 16 + c), c := decide (a < v.toNat + c) }
    let after : Byte → Nat → Nat → Result := fun v c k => .next { s with
      regs := { s.regs with a := BitVec.ofInt 8 ((a : Int) - v.toNat - c), flags := flags v c }, cycles := k }
    let compared : Byte → Nat → Result := fun v k => .next { s with regs := { s.regs with flags := flags v 0 }, cycles := k }
    decode (xyz 2 2 x.code :: rest) = .ok (.alu .sub x, rest) ∧
    exec (.alu .sub x) s = after (s.readX x) 0 (if x = .mHL then 8 else 4) ∧
    decode (0xD6 :: n :: rest) = .ok (.aluN8 .sub n, rest) ∧ exec (.aluN8 .sub n) s = after n 0 8 ∧
    decode (xyz 2 3 x.code :: rest) = .ok (.alu .sbc x, rest) ∧
    exec (.alu .sbc x) s = after (s.readX x) carry (if x = .mHL then 8 else 4) ∧
    decode (0xDE :: n :: rest) = .ok (.aluN8 .sbc n, rest) ∧ exec (.aluN8 .sbc n) s = after n carry 8 ∧
    decode (xyz 2 7 x.code :: rest) = .ok (.alu .cp x, rest) ∧
    exec (.alu .cp x) s = compared (s.readX x) (if x = .mHL then 8 else 4) ∧
    decode (0xFE :: n :: rest) = .ok (.aluN8 .cp n, rest) ∧ exec (.aluN8 .cp n) s = compared n 8

/-- `AND`, `XOR` and `OR` in their three forms (41_alu8 R173 to R181). -/
def Obligations.AndXorAndOr : Prop :=
  ∀ (x : Operand8) (n : Byte) (rest : List Byte) (s : State),
    let a : Byte := s.regs.a
    let after : Byte → Bool → Nat → Result := fun r h k => .next { s with
      regs := { s.regs with a := r, flags := { z := decide (r = 0), n := false, h := h, c := false } }, cycles := k }
    decode (xyz 2 4 x.code :: rest) = .ok (.alu .and x, rest) ∧
    exec (.alu .and x) s = after (a &&& s.readX x) true (if x = .mHL then 8 else 4) ∧
    decode (0xE6 :: n :: rest) = .ok (.aluN8 .and n, rest) ∧ exec (.aluN8 .and n) s = after (a &&& n) true 8 ∧
    decode (xyz 2 5 x.code :: rest) = .ok (.alu .xor x, rest) ∧
    exec (.alu .xor x) s = after (a ^^^ s.readX x) false (if x = .mHL then 8 else 4) ∧
    decode (0xEE :: n :: rest) = .ok (.aluN8 .xor n, rest) ∧ exec (.aluN8 .xor n) s = after (a ^^^ n) false 8 ∧
    decode (xyz 2 6 x.code :: rest) = .ok (.alu .or x, rest) ∧
    exec (.alu .or x) s = after (a ||| s.readX x) false (if x = .mHL then 8 else 4) ∧
    decode (0xF6 :: n :: rest) = .ok (.aluN8 .or n, rest) ∧ exec (.aluN8 .or n) s = after (a ||| n) false 8

/-- `INC r`, `INC (HL)`, `DEC r` and `DEC (HL)`: one read, one write of the same place, C unchanged, the flags from the
value computed whether or not the bus takes the write (41_alu8 R185 to R188). -/
def Obligations.IncAndDec : Prop :=
  ∀ (x : Operand8) (rest : List Byte) (s : State),
    let v : Byte := s.readX x
    let after : Byte → Bool → Bool → Result := fun r n h => .next { State.setFlags
      { z := decide (r = 0), n := n, h := h, c := s.regs.flags.c } (s.writeX x r) with cycles := if x = .mHL then 12 else 4 }
    decode (xyz 0 x.code 4 :: rest) = .ok (.incX x, rest) ∧
    exec (.incX x) s = after (BitVec.ofNat 8 (v.toNat + 1)) false (decide (v.toNat % 16 = 0xF)) ∧
    decode (xyz 0 x.code 5 :: rest) = .ok (.decX x, rest) ∧
    exec (.decX x) s = after (BitVec.ofNat 8 (v.toNat + 255)) true (decide (v.toNat % 16 = 0))

/-- `DAA`: what is added after an addition, or subtracted after a subtraction, is decided by the flags and, after an
addition only, by the digits of the original `A` (41_alu8 R189). -/
def Obligations.DecimalAdjust : Prop :=
  ∀ (rest : List Byte) (s : State),
    let a : Byte := s.regs.a
    let f : Flags := s.regs.flags
    let high : Bool := f.c || (!f.n && decide (a.toNat > 0x99))
    let low : Bool := f.h || (!f.n && decide (a.toNat % 16 > 9))
    let correction : Byte := (if high then 0x60 else 0) + (if low then 0x06 else 0)
    let r : Byte := if f.n then a - correction else a + correction
    decode (0x27 :: rest) = .ok (.daa, rest) ∧
    exec .daa s = .next { s with
      regs := { s.regs with a := r, flags := { z := decide (r = 0), n := f.n, h := false, c := high } }, cycles := 4 }

/-- `CPL`, `SCF` and `CCF` (41_alu8 R190 to R192). -/
def Obligations.ComplementAndCarryFlag : Prop :=
  ∀ (rest : List Byte) (s : State),
    let f : Flags := s.regs.flags
    decode (0x2F :: rest) = .ok (.cpl, rest) ∧
    exec .cpl s = .next { s with
      regs := { s.regs with a := ~~~s.regs.a, flags := { z := f.z, n := true, h := true, c := f.c } }, cycles := 4 } ∧
    decode (0x37 :: rest) = .ok (.scf, rest) ∧
    exec .scf s = .next { s with regs := { s.regs with flags := { z := f.z, n := false, h := false, c := true } }, cycles := 4 } ∧
    decode (0x3F :: rest) = .ok (.ccf, rest) ∧
    exec .ccf s = .next { s with regs := { s.regs with flags := { z := f.z, n := false, h := false, c := !f.c } }, cycles := 4 }

/-- `DAA` after `ADD A,n8`, `ADC A,n8`, `SUB n8` and `SBC A,n8` of two packed-BCD bytes: the result is the packed-BCD sum or
difference modulo 100, with C the decimal carry or borrow and N as the operation left it (41_alu8 R189: "Decimal-adjusts
`A` after an addition or subtraction of two packed-BCD bytes"). -/
def Obligations.DecimalArithmetic : Prop :=
  ∀ (s : State) (q : Byte), isBcd s.regs.a → isBcd q →
    let carry : Nat := if s.regs.flags.c then 1 else 0
    (∀ op : AluOp, op = .add ∨ op = .adc → ∃ t u, exec (.aluN8 op q) s = .next t ∧ exec .daa t = .next u ∧ isBcd u.regs.a ∧
      u.regs.flags.n = false ∧
      bcdValue u.regs.a + (if u.regs.flags.c then 100 else 0) = bcdValue s.regs.a + bcdValue q + (if op = .adc then carry else 0)) ∧
    (∀ op : AluOp, op = .sub ∨ op = .sbc → ∃ t u, exec (.aluN8 op q) s = .next t ∧ exec .daa t = .next u ∧ isBcd u.regs.a ∧
      u.regs.flags.n = true ∧
      bcdValue u.regs.a + bcdValue q + (if op = .sbc then carry else 0) = bcdValue s.regs.a + (if u.regs.flags.c then 100 else 0))

/-! ### 16-bit loads, the stack, 16-bit arithmetic -/

/-- `LD rr,n16`, little-endian, and `LD SP,HL` (42_loads16_alu16 R210, R212). -/
def Obligations.LoadPair : Prop :=
  ∀ (p : Reg16) (lo hi : Byte) (rest : List Byte) (s : State),
    decode (xyz 0 (2 * p.code) 1 :: lo :: hi :: rest) = .ok (.ldRrN16 p (hi ++ lo), rest) ∧
    exec (.ldRrN16 p (hi ++ lo)) s = .next { s.setPair p (hi ++ lo) with cycles := 12 } ∧
    decode (0xF9 :: rest) = .ok (.ld_SP_HL, rest) ∧
    exec .ld_SP_HL s = .next { s with regs := { s.regs with sp := s.regs.h ++ s.regs.l }, cycles := 8 }

/-- `LD (a16),SP`: the low byte at `a`, then the high byte at `a + 1` modulo 2^16 (42_loads16_alu16 R211; the byte order is
the spec's own choice, 92_eei D2). -/
def Obligations.StoreStackPointer : Prop :=
  ∀ (a : Word) (rest : List Byte) (s : State),
    decode (0x08 :: loByte a :: hiByte a :: rest) = .ok (.ld_ma16_SP a, rest) ∧
    exec (.ld_ma16_SP a) s = .next
      { (s.write a (s.regs.sp.extractLsb' 0 8)).write (a + 1) (s.regs.sp.extractLsb' 8 8) with cycles := 20 }

/-- `LD HL,SP+e8` and `ADD SP,e8`: the result uses the signed operand, H and C the unsigned low-byte sum, Z and N are 0
(42_loads16_alu16 R215, R219, R220). -/
def Obligations.StackPointerOffset : Prop :=
  ∀ (e : Byte) (rest : List Byte) (s : State),
    let sp : Word := s.regs.sp
    let r : Word := BitVec.ofInt 16 (sp.toNat + e.toInt)
    let f : Flags := { z := false, n := false, h := decide (sp.toNat % 16 + e.toNat % 16 > 0xF),
                       c := decide (sp.toNat % 256 + e.toNat > 0xFF) }
    decode (0xF8 :: e :: rest) = .ok (.ld_HL_SPe8 e, rest) ∧
    exec (.ld_HL_SPe8 e) s = .next { (s.setPair .hl r).setFlags f with cycles := 12 } ∧
    decode (0xE8 :: e :: rest) = .ok (.add_SP_e8 e, rest) ∧
    exec (.add_SP_e8 e) s = .next { s with regs := { s.regs with sp := r, flags := f }, cycles := 16 }

/-- `PUSH rr` writes the high byte at `SP - 1`, then the low byte at `SP - 2`; `POP rr` reads the low byte at `SP` and the
high byte at `SP + 1` (42_loads16_alu16 R213, R214). -/
def Obligations.PushAndPop : Prop :=
  ∀ (p : StackReg) (rest : List Byte) (s : State),
    let v : Word := s.getStackPair p
    decode (xyz 3 (2 * p.code) 5 :: rest) = .ok (.push p, rest) ∧
    exec (.push p) s = .next
      { State.setSp (s.regs.sp - 2) ((s.write (s.regs.sp - 1) (v.extractLsb' 8 8)).write (s.regs.sp - 2) (v.extractLsb' 0 8)) with
        cycles := 16 } ∧
    decode (xyz 3 (2 * p.code) 1 :: rest) = .ok (.pop p, rest) ∧
    exec (.pop p) s = .next
      { (s.setSp (s.regs.sp + 2)).setStackPair p (s.read (s.regs.sp + 1) ++ s.read s.regs.sp) with cycles := 12 }

/-- On a stack in RAM, `POP` gives back what `PUSH` saved, and `SP`; `POP AF` drops the low four bits, and takes the flags
from bits 7 to 4 (42_loads16_alu16 R213, R214; the flags' positions are the spec's own choice, 92_eei D27). -/
def Obligations.PopGivesBackPush : Prop :=
  ∀ (p q : StackReg) (s : State), s.storesByte (s.regs.sp - 1) = true → s.storesByte (s.regs.sp - 2) = true →
    ∃ t u, exec (.push p) s = .next t ∧ exec (.pop q) t = .next u ∧ u.regs.sp = s.regs.sp ∧
      u.getStackPair q = (if q = .af then s.getStackPair p &&& 0xFFF0 else s.getStackPair p) ∧
      (q = .af → u.regs.flags =
        { z := (s.getStackPair p).getLsbD 7, n := (s.getStackPair p).getLsbD 6,
          h := (s.getStackPair p).getLsbD 5, c := (s.getStackPair p).getLsbD 4 })

/-- `INC rr` and `DEC rr` modulo 2^16, no flag changed; `ADD HL,rr`: Z kept, N 0, H from bit 11, C from bit 15
(42_loads16_alu16 R216 to R218). -/
def Obligations.PairArithmetic : Prop :=
  ∀ (p : Reg16) (rest : List Byte) (s : State),
    let a : Nat := (s.regs.h ++ s.regs.l).toNat
    let v : Nat := (s.getPair p).toNat
    decode (xyz 0 (2 * p.code) 3 :: rest) = .ok (.incRr p, rest) ∧
    exec (.incRr p) s = .next { s.setPair p (BitVec.ofNat 16 (v + 1)) with cycles := 8 } ∧
    decode (xyz 0 (2 * p.code + 1) 3 :: rest) = .ok (.decRr p, rest) ∧
    exec (.decRr p) s = .next { s.setPair p (BitVec.ofInt 16 (v - 1)) with cycles := 8 } ∧
    decode (xyz 0 (2 * p.code + 1) 1 :: rest) = .ok (.addHlRr p, rest) ∧
    exec (.addHlRr p) s = .next { State.setFlags
      { z := s.regs.flags.z, n := false, h := decide (a % 4096 + v % 4096 > 0xFFF), c := decide (a + v > 0xFFFF) }
      (s.setPair .hl (BitVec.ofNat 16 (a + v))) with cycles := 8 }

/-! ### Rotates, shifts, bits -/

/-- `RLCA`, `RRCA`, `RLA` and `RRA`: Z is always 0 (43_rotates_bits R230 to R234). -/
def Obligations.AccumulatorRotates : Prop :=
  ∀ (rest : List Byte) (s : State),
    let a : Byte := s.regs.a
    let c : Bool := s.regs.flags.c
    let after : Byte → Bool → Result := fun r co => .next { s with
      regs := { s.regs with a := r, flags := { z := false, n := false, h := false, c := co } }, cycles := 4 }
    decode (0x07 :: rest) = .ok (.rlca, rest) ∧ exec .rlca s = after (a.rotateLeft 1) (a.getLsbD 7) ∧
    decode (0x0F :: rest) = .ok (.rrca, rest) ∧ exec .rrca s = after (a.rotateRight 1) (a.getLsbD 0) ∧
    decode (0x17 :: rest) = .ok (.rla, rest) ∧ exec .rla s = after ((a <<< 1) ||| (if c then 0x01 else 0)) (a.getLsbD 7) ∧
    decode (0x1F :: rest) = .ok (.rra, rest) ∧ exec .rra s = after ((a >>> 1) ||| (if c then 0x80 else 0)) (a.getLsbD 0)

/-- `RLC`, `RRC`, `RL`, `RR`, `SLA`, `SRA`, `SWAP` and `SRL` on a register or on the byte at `HL`: Z is computed, `SWAP`
clears C (43_rotates_bits R234 to R250). -/
def Obligations.CbRotatesAndShifts : Prop :=
  ∀ (x : Operand8) (rest : List Byte) (s : State),
    let v : Byte := s.readX x
    let c : Bool := s.regs.flags.c
    let after : Byte → Bool → Result := fun r co => .next { State.setFlags
      { z := decide (r = 0), n := false, h := false, c := co } (s.writeX x r) with cycles := if x = .mHL then 16 else 8 }
    decode (0xCB :: xyz 0 0 x.code :: rest) = .ok (.rot .rlc x, rest) ∧
    exec (.rot .rlc x) s = after (v.rotateLeft 1) (v.getLsbD 7) ∧
    decode (0xCB :: xyz 0 1 x.code :: rest) = .ok (.rot .rrc x, rest) ∧
    exec (.rot .rrc x) s = after (v.rotateRight 1) (v.getLsbD 0) ∧
    decode (0xCB :: xyz 0 2 x.code :: rest) = .ok (.rot .rl x, rest) ∧
    exec (.rot .rl x) s = after ((v <<< 1) ||| (if c then 0x01 else 0)) (v.getLsbD 7) ∧
    decode (0xCB :: xyz 0 3 x.code :: rest) = .ok (.rot .rr x, rest) ∧
    exec (.rot .rr x) s = after ((v >>> 1) ||| (if c then 0x80 else 0)) (v.getLsbD 0) ∧
    decode (0xCB :: xyz 0 4 x.code :: rest) = .ok (.rot .sla x, rest) ∧
    exec (.rot .sla x) s = after (BitVec.ofNat 8 (2 * v.toNat)) (v.getLsbD 7) ∧
    decode (0xCB :: xyz 0 5 x.code :: rest) = .ok (.rot .sra x, rest) ∧
    exec (.rot .sra x) s = after (v.sshiftRight 1) (v.getLsbD 0) ∧
    decode (0xCB :: xyz 0 6 x.code :: rest) = .ok (.rot .swap x, rest) ∧
    exec (.rot .swap x) s = after (v.rotateLeft 4) false ∧
    decode (0xCB :: xyz 0 7 x.code :: rest) = .ok (.rot .srl x, rest) ∧
    exec (.rot .srl x) s = after (BitVec.ofNat 8 (v.toNat / 2)) (v.getLsbD 0)

/-- `BIT b,x`: Z is the complement of the bit, N 0, H 1, C kept, nothing else written, memory unchanged. `RES b,x` and
`SET b,x`: only bit `b` of the operand changes, no flag does, the `(HL)` write is issued whatever the bit was
(43_rotates_bits R251 to R256). -/
def Obligations.BitInstructions : Prop :=
  ∀ (b : Fin 8) (x : Operand8) (rest : List Byte) (s : State),
    decode (0xCB :: xyz 1 b.val x.code :: rest) = .ok (.bit b x, rest) ∧
    exec (.bit b x) s = .next { s with
      regs := { s.regs with flags := { z := !(s.readX x).getLsbD b.val, n := false, h := true, c := s.regs.flags.c } }
      cycles := if x = .mHL then 12 else 8 } ∧
    decode (0xCB :: xyz 2 b.val x.code :: rest) = .ok (.res b x, rest) ∧
    (∃ r : Byte, exec (.res b x) s = .next { s.writeX x r with cycles := if x = .mHL then 16 else 8 } ∧
      ∀ k : Nat, k < 8 → r.getLsbD k = if k = b.val then false else (s.readX x).getLsbD k) ∧
    decode (0xCB :: xyz 3 b.val x.code :: rest) = .ok (.set b x, rest) ∧
    (∃ r : Byte, exec (.set b x) s = .next { s.writeX x r with cycles := if x = .mHL then 16 else 8 } ∧
      ∀ k : Nat, k < 8 → r.getLsbD k = if k = b.val then true else (s.readX x).getLsbD k)

/-! ### Control transfer -/

/-- `JP a16`, `JP cc,a16`, `JP HL`, `JR e8` and `JR cc,e8`: the condition reads `fZ` or `fC`; the signed offset is added,
modulo 2^16, to the address after the instruction (44_control R270 to R275). -/
def Obligations.Jumps : Prop :=
  ∀ (cc : Cond) (a : Word) (e : Byte) (rest : List Byte) (s : State),
    let holds : Bool := match cc with
      | .nz => !s.regs.flags.z
      | .z => s.regs.flags.z
      | .nc => !s.regs.flags.c
      | .c => s.regs.flags.c
    let target : Word := BitVec.ofInt 16 (s.regs.pc.toNat + e.toInt)
    decode (0xC3 :: loByte a :: hiByte a :: rest) = .ok (.jp_a16 a, rest) ∧
    exec (.jp_a16 a) s = .next { s with regs := { s.regs with pc := a }, cycles := 16 } ∧
    decode (xyz 3 cc.code 2 :: loByte a :: hiByte a :: rest) = .ok (.jpCc cc a, rest) ∧
    exec (.jpCc cc a) s = .next (if holds then { s with regs := { s.regs with pc := a }, cycles := 16 }
      else { s with cycles := 12 }) ∧
    decode (0xE9 :: rest) = .ok (.jp_HL, rest) ∧
    exec .jp_HL s = .next { s with regs := { s.regs with pc := s.regs.h ++ s.regs.l }, cycles := 4 } ∧
    decode (0x18 :: e :: rest) = .ok (.jr_e8 e, rest) ∧
    exec (.jr_e8 e) s = .next { s with regs := { s.regs with pc := target }, cycles := 12 } ∧
    decode (xyz 0 (4 + cc.code) 0 :: e :: rest) = .ok (.jrCc cc e, rest) ∧
    exec (.jrCc cc e) s = .next (if holds then { s with regs := { s.regs with pc := target }, cycles := 12 }
      else { s with cycles := 8 })

/-- `CALL a16`, `CALL cc,a16` and `RST n`: the address after the instruction is pushed, high byte first, then `PC` is the
target; a call not taken touches neither `SP` nor memory (44_control R276, R277, R281). -/
def Obligations.Calls : Prop :=
  ∀ (cc : Cond) (a : Word) (n : Fin 8) (rest : List Byte) (s : State),
    let holds : Bool := match cc with
      | .nz => !s.regs.flags.z
      | .z => s.regs.flags.z
      | .nc => !s.regs.flags.c
      | .c => s.regs.flags.c
    let called : Word → Nat → State := fun target k =>
      let t := (s.write (s.regs.sp - 1) (s.regs.pc.extractLsb' 8 8)).write (s.regs.sp - 2) (s.regs.pc.extractLsb' 0 8)
      { t with regs := { s.regs with sp := s.regs.sp - 2, pc := target }, cycles := k }
    decode (0xCD :: loByte a :: hiByte a :: rest) = .ok (.call_a16 a, rest) ∧
    exec (.call_a16 a) s = .next (called a 24) ∧
    decode (xyz 3 cc.code 4 :: loByte a :: hiByte a :: rest) = .ok (.callCc cc a, rest) ∧
    exec (.callCc cc a) s = .next (if holds then called a 24 else { s with cycles := 12 }) ∧
    decode (xyz 3 n.val 7 :: rest) = .ok (.rst n, rest) ∧
    exec (.rst n) s = .next (called (BitVec.ofNat 16 (8 * n.val)) 16)

/-- `RET` and `RET cc`: the return address is popped, low byte first; not taken, neither `SP` nor memory is touched
(44_control R278, R279). -/
def Obligations.Returns : Prop :=
  ∀ (cc : Cond) (rest : List Byte) (s : State),
    let holds : Bool := match cc with
      | .nz => !s.regs.flags.z
      | .z => s.regs.flags.z
      | .nc => !s.regs.flags.c
      | .c => s.regs.flags.c
    let returned : Nat → State := fun k => { s with
      regs := { s.regs with pc := s.read (s.regs.sp + 1) ++ s.read s.regs.sp, sp := s.regs.sp + 2 }, cycles := k }
    decode (0xC9 :: rest) = .ok (.ret, rest) ∧ exec .ret s = .next (returned 16) ∧
    decode (xyz 3 cc.code 0 :: rest) = .ok (.retCc cc, rest) ∧
    exec (.retCc cc) s = .next (if holds then returned 20 else { s with cycles := 8 })

/-- `RETI`: `RET` and `IME` to 1 at once, nothing else restored (44_control R280; that it is at once is the spec's own
choice, 92_eei D7). -/
def Obligations.ReturnFromInterrupt : Prop :=
  ∀ (rest : List Byte) (s : State),
    decode (0xD9 :: rest) = .ok (.reti, rest) ∧
    exec .reti s = .next { s with
      regs := { s.regs with pc := s.read (s.regs.sp + 1) ++ s.read s.regs.sp, sp := s.regs.sp + 2 }
      ctl := { s.ctl with ime := true }
      cycles := 16 }

/-! ### System instructions -/

/-- `NOP`, `HALT`, `STOP`, `DI` and `EI`: what each changes, and nothing else; `HALT` with `IME` 0 and an interrupt pending
sets `HaltBug` instead of `Halted` (45_system R290 to R294; that `STOP` does no more and that `DI` acts at once are the
spec's own choices, 92_eei D5, D7). -/
def Obligations.ControlFlipFlops : Prop :=
  ∀ (pad : Byte) (rest : List Byte) (s : State),
    let pending : BitVec 5 := s.ie.extractLsb' 0 5 &&& s.iflag
    decode (0x00 :: rest) = .ok (.nop, rest) ∧ exec .nop s = .next { s with cycles := 4 } ∧
    decode (0x76 :: rest) = .ok (.halt, rest) ∧
    (s.ctl.ime = false ∧ pending ≠ 0 → exec .halt s = .next { s with ctl := { s.ctl with haltBug := true }, cycles := 4 }) ∧
    (¬ (s.ctl.ime = false ∧ pending ≠ 0) → exec .halt s = .next { s with ctl := { s.ctl with halted := true }, cycles := 4 }) ∧
    decode (0x10 :: pad :: rest) = .ok (.stop pad, rest) ∧
    exec (.stop pad) s = .next { s with ctl := { s.ctl with stopped := true }, cycles := 4 } ∧
    decode (0xF3 :: rest) = .ok (.di, rest) ∧ exec .di s = .next { s with ctl := { s.ctl with ime := false }, cycles := 4 } ∧
    decode (0xFB :: rest) = .ok (.ei, rest) ∧ exec .ei s = .next { s with ctl := { s.ctl with eiPending := true }, cycles := 4 }

/-- The eleven illegal opcodes are one byte long and 4-cycle no-ops where `ILLEGAL_OPCODES` holds them, which it does by
default; a byte taken out of that set is the fatal unknown opcode (30_encoding R113, 45_system R296, R297; one byte long is
the spec's own choice, 92_eei D6, what the fault reports is notes/assumptions/10.md, and that an assigned byte in the set has no effect
is the model's choice, notes/assumptions/21.md). -/
def Obligations.IllegalOpcodes : Prop :=
  Config.default.illegalOpcodes = [0xD3, 0xDB, 0xDD, 0xE3, 0xE4, 0xEB, 0xEC, 0xED, 0xF4, 0xFC, 0xFD] ∧
  ∀ (op : Byte) (i : Instr), (op, i) ∈ Instr.illegalRows → ∀ (rest : List Byte) (s : State),
    decode (op :: rest) = .ok (i, rest) ∧ op ∈ Config.default.illegalOpcodes ∧
    (op ∈ s.cfg.illegalOpcodes → exec i s = .next { s with cycles := 4 }) ∧
    (op ∉ s.cfg.illegalOpcodes → exec i s = .fault (.fatalUnknownOpcode op s.regs.pc))

/-- The lone `CB` prefix fetches the next byte and runs the operation that byte selects, with its cycles: 8, 12 or 16. It
completes in every state (45_system R295). -/
def Obligations.CbPrefix : Prop :=
  ∀ s : State, ∃ (i : Instr) (t : State), decode [0xCB, s.read s.regs.pc] = .ok (i, []) ∧
    exec .prefix_CB s = exec i (s.setPc (s.regs.pc + 1)) ∧ exec .prefix_CB s = .next t ∧ t.cycles ∈ [8, 12, 16]

/-! ### The step -/

/-- When the bytes at `PC` decode to an instruction, and neither an interrupt is to be dispatched nor the CPU halted, a step
is the host's actions, the promotion of `EiPending`, that instruction with `PC` past its bytes, and its cycles replayed
into the devices; with no halt bug (00_scope R1 to R3, 60_exceptions R318, R319, R323; that all accesses come before the replay and that the
host acts between steps are the spec's own choices, 92_eei D8, D31; notes/assumptions/5.md, 6.md). -/
def Obligations.StepRunsDecodedInstruction : Prop :=
  ∀ (s : State) (i : Instr) (rest : List Byte),
    let u : State := s.hostActions.promoteEi
    let pc : Word := u.regs.pc
    u.ctl.halted = false → u.ctl.haltBug = false → (u.pending = 0 ∨ u.ctl.ime = false) →
    decode [u.read pc, u.read (pc + 1), u.read (pc + 2)] = .ok (i, rest) →
    step s = match exec i (u.setPc (pc + BitVec.ofNat 16 (3 - rest.length))) with
      | .next t => .next (t.replay t.cycles)
      | .fault r => .fault r
      | .refused r => .refused r

/-- With the halt bug the opcode fetch leaves `PC` where it is, so the opcode byte is read again as the first operand byte
or as the next opcode, and the flip-flop is cleared (60_exceptions R323, 30_encoding R115). -/
def Obligations.HaltBugRepeatsByte : Prop :=
  ∀ (s : State) (i : Instr) (rest : List Byte),
    let u : State := s.hostActions.promoteEi
    let pc : Word := u.regs.pc
    u.ctl.halted = false → u.ctl.haltBug = true → (u.pending = 0 ∨ u.ctl.ime = false) →
    decode [u.read pc, u.read pc, u.read (pc + 1)] = .ok (i, rest) →
    step s = match exec i (State.setPc (pc + BitVec.ofNat 16 (2 - rest.length)) { u with ctl := { u.ctl with haltBug := false } }) with
      | .next t => .next (t.replay t.cycles)
      | .fault r => .fault r
      | .refused r => .refused r

/-- The numbered steps of `Step()`: the promotion of `EiPending`; then the dispatch of the lowest pending interrupt, which
clears `IME` and its `IF` bit before it pushes `PC`, clears `Halted` and takes 20 cycles; or the wake without service; or
4 idle cycles; or one instruction (60_exceptions R318 to R323; `Stopped` not read, `HaltBug` kept and the push through the
bus are the spec's own choices, 92_eei D4, D5, D32, as is the wake's cycle count, D3; that a pending interrupt is dispatched
before the instruction after `EI`, a `HALT` too, is 90_conflicts C2, DEDUCED, notes/assumptions/22.md). -/
def Obligations.StepAlgorithm : Prop :=
  ∀ s : State,
    let ime : Bool := s.ctl.ime || s.ctl.eiPending
    let p : BitVec 5 := s.ie.extractLsb' 0 5 &&& s.iflag
    let ctl : CpuState := { s.ctl with ime := ime, eiPending := false }
    (p ≠ 0 ∧ ime = true → ∃ b : Fin 5, p.getLsbD b.val = true ∧ (∀ c : Nat, c < b.val → p.getLsbD c = false) ∧
      s.cpuStep =
        (let cleared := { s with ctl := { ctl with ime := false }, iflag := s.iflag &&& ~~~(1#5 <<< b.val) }
         let pushed := ((cleared.write (s.regs.sp - 1) (s.regs.pc.extractLsb' 8 8)).write (s.regs.sp - 2)
           (s.regs.pc.extractLsb' 0 8))
         .next { pushed with
           regs := { s.regs with sp := s.regs.sp - 2, pc := BitVec.ofNat 16 (0x40 + 8 * b.val) }
           ctl := { ctl with ime := false, halted := false }
           cycles := 20 })) ∧
    (p ≠ 0 ∧ ime = false ∧ s.ctl.halted = true →
      s.cpuStep = .next { s with ctl := { ctl with halted := false }, cycles := s.cfg.haltWakeCycles }) ∧
    (p = 0 ∧ s.ctl.halted = true → s.cpuStep = .next { s with ctl := ctl, cycles := 4 }) ∧
    ((p = 0 ∨ ime = false) ∧ s.ctl.halted = false → s.cpuStep = State.runInstruction { s with ctl := ctl })

/-- One system step is `Step()` and then, cycle by cycle, a tick of the PPU, the timer and the DMA countdown, which moves
its window one cycle towards 0 and nothing else (20_memory R85, which the spec marks as derived); the three do not disturb
each other, so the order inside a cycle cannot be observed: the replay is the PPU's ticks, then the timer's, then the DMA's,
and `n` cycles take `n` from the window (00_scope R1, R2: "it is not observable", which the spec marks as derived; the
listed order is the spec's own choice, 92_eei D8). -/
def Obligations.ReplayIsPerDevice : Prop :=
  (∀ s t : State, s.hostActions.cpuStep = .next t → step s = .next (t.replay t.cycles)) ∧
  (∀ (s : State) (n : Nat), s.replay (n + 1) = State.replay n s.ppuTick.timerTick.dmaTick) ∧
  (∀ s : State, s.dmaTick = { s with dmaBusy := if 0 < s.dmaBusy then s.dmaBusy - 1 else s.dmaBusy }) ∧
  ∀ (s : State) (n : Nat), s.replay n = State.dmaTick^[n] (State.timerTick^[n] (State.ppuTick^[n] s)) ∧
    (s.replay n).dmaBusy = s.dmaBusy - n

/-! ### The bus -/

/-- What a CPU read returns in every region of the address map, with OAM and VRAM blocking; a raw read is the read with
neither blocked (20_memory R50, R52 to R66, R74). Choices, not the source's words: blocked reads give 0xFF and the DMA
window's reach (the spec's own, 92_eei D12 to D14), unnamed I/O bytes are storage (D15) and all 8 bits of `IE` read back
(D16; notes/assumptions/20.md), what ROM and cartridge RAM read with no mapper (D17); another mapper's reads are free
(notes/assumptions/14.md) but for 0xFF out of its physical bounds (R54). -/
def Obligations.ReadMap : Prop :=
  ∀ (s : State) (a : Word),
    let n : Nat := a.toNat
    (n ≤ 0x7FFF → s.read a = match s.cfg.mapper with
      | .noMapper => s.mem.read n
      | .external id => (Config.mapperReadRom id s.mapperState a).getD 0xFF) ∧
    (0x8000 ≤ n ∧ n ≤ 0x9FFF → s.read a =
      if s.cfg.vramAccessMode = .vramMode3Blocked ∧ s.ppu.mode = .drawing then 0xFF else s.mem.read n) ∧
    (0xA000 ≤ n ∧ n ≤ 0xBFFF → s.read a = match s.cfg.mapper with
      | .noMapper => 0xFF
      | .external id => (Config.mapperReadRam id s.mapperState a).getD 0xFF) ∧
    (0xC000 ≤ n ∧ n ≤ 0xDFFF → s.read a = s.mem.read n) ∧
    (0xE000 ≤ n ∧ n ≤ 0xFDFF → s.read a = s.read (a - 0x2000)) ∧
    (0xFE00 ≤ n ∧ n ≤ 0xFE9F → s.read a =
      if s.ppu.mode = .oamScan ∨ s.ppu.mode = .drawing ∨ 0 < s.dmaBusy then 0xFF else s.mem.read n) ∧
    (0xFEA0 ≤ n ∧ n ≤ 0xFEFF → s.read a = 0xFF) ∧
    (0xFF00 ≤ n ∧ n ≤ 0xFF7F ∧ ioTable.lookup n = none → s.read a = s.mem.read n) ∧
    (0xFF80 ≤ n ∧ n ≤ 0xFFFE → s.read a = s.mem.read n) ∧
    (n = 0xFFFF → s.read a = s.ie) ∧
    s.rawRead a = State.read { s with ppu := { s.ppu with mode := .hBlank }, dmaBusy := 0 } a

/-- What a CPU read of every named I/O register returns, JOYP apart (20_memory R70 to R76, R86, 60_exceptions R312, R344 to
R347; the addresses, the bits that read 1, and that 0xFF46 reads back the last value written are the spec's own choices,
92_eei D15, D16 and D12; notes/assumptions/20.md). -/
def Obligations.IoReads : Prop :=
  ∀ s : State,
    s.read 0xFF01 = s.sb ∧ s.read 0xFF02 = s.sc ∧
    s.read 0xFF04 = s.timer.systemCounter.extractLsb' 8 8 ∧ s.read 0xFF05 = s.timer.tima ∧ s.read 0xFF06 = s.timer.tma ∧
    s.read 0xFF07 = 0b11111#5 ++ s.timer.tac ∧ s.read 0xFF0F = 0b111#3 ++ s.iflag ∧
    s.read 0xFF40 = s.lcd.lcdc ∧ s.read 0xFF41 = s.lcd.stat ∧ s.read 0xFF42 = s.lcd.scy ∧ s.read 0xFF43 = s.lcd.scx ∧
    s.read 0xFF44 = s.lcd.ly ∧ s.read 0xFF45 = s.lcd.lyc ∧ s.read 0xFF46 = s.lcd.dma ∧ s.read 0xFF47 = s.lcd.bgp ∧
    s.read 0xFF48 = s.lcd.obp0 ∧ s.read 0xFF49 = s.lcd.obp1 ∧ s.read 0xFF4A = s.lcd.wy ∧ s.read 0xFF4B = s.lcd.wx

/-- The frame of a store: a write the bus drops changes nothing; a write to a byte of storage changes that byte alone, read
through work RAM and echo alike, and nothing else of the state; with another mapper a write to ROM or cartridge RAM changes
the mapper's state alone, and out of its physical bounds nothing (20_memory R51 to R61, R63 to R65, R74). Choices, not the
source's words: blocked OAM and VRAM writes are dropped (the spec's own, 92_eei D12 to D14), unnamed I/O bytes are storage
(the spec's own, D15; notes/assumptions/20.md), ROM and cartridge-RAM writes are dropped with no mapper (D17), what another
mapper's next state is is free (notes/assumptions/14.md). -/
def Obligations.StoreFrame : Prop :=
  ∀ (s : State) (a : Word) (v : Byte),
    (s.dropsWrite a = true → s.write a v = s) ∧
    (s.storesByte a = true →
      s.write a v = { s with mem := (s.write a v).mem } ∧
      ∀ b : Word, (s.write a v).read b = if storageAddress b = storageAddress a then v else s.read b) ∧
    ∀ id : Nat, s.cfg.mapper = .external id →
      (a.toNat ≤ 0x7FFF →
        s.write a v = { s with mapperState := (Config.mapperWriteRom id s.mapperState a v).getD s.mapperState }) ∧
      (0xA000 ≤ a.toNat ∧ a.toNat ≤ 0xBFFF →
        s.write a v = { s with mapperState := (Config.mapperWriteRam id s.mapperState a v).getD s.mapperState })

/-- What a CPU write to every named I/O register with no effect beyond its own bits does, and to `IE`: STAT keeps bits 2..0,
LY goes to 0 (20_memory R62, R72, R73, R75, R76, 60_exceptions R311, R312, R347; the addresses and that SB and SC are
plain storage are the spec's own choice 92_eei D15, the masks its choices D16, D25; notes/assumptions/20.md). -/
def Obligations.IoWrites : Prop :=
  ∀ (s : State) (v : Byte),
    s.write 0xFF01 v = { s with sb := v } ∧ s.write 0xFF02 v = { s with sc := v } ∧
    s.write 0xFF06 v = { s with timer := { s.timer with tma := v } } ∧
    s.write 0xFF0F v = { s with iflag := v.extractLsb' 0 5 } ∧
    s.write 0xFF41 v = { s with lcd := { s.lcd with stat := v.extractLsb' 3 5 ++ s.lcd.stat.extractLsb' 0 3 } } ∧
    s.write 0xFF42 v = { s with lcd := { s.lcd with scy := v } } ∧ s.write 0xFF43 v = { s with lcd := { s.lcd with scx := v } } ∧
    s.write 0xFF44 v = { s with lcd := { s.lcd with ly := 0 } } ∧ s.write 0xFF45 v = { s with lcd := { s.lcd with lyc := v } } ∧
    s.write 0xFF47 v = { s with lcd := { s.lcd with bgp := v } } ∧ s.write 0xFF48 v = { s with lcd := { s.lcd with obp0 := v } } ∧
    s.write 0xFF49 v = { s with lcd := { s.lcd with obp1 := v } } ∧ s.write 0xFF4A v = { s with lcd := { s.lcd with wy := v } } ∧
    s.write 0xFF4B v = { s with lcd := { s.lcd with wx := v } } ∧
    s.write 0xFFFF v = { s with ie := v }

/-- A write to LCDC: without a change of bit 7 it is stored and nothing else happens; clearing bit 7 forces LY 0, mode 0 and
STAT bits 2..0 to 0 and requests nothing; setting it restarts at OamScan, LY 0, as a mode entry (20_memory R71,
60_exceptions R369, R370; the transitions' details are the spec's own choice, 92_eei D24, the window counter's reset D21). -/
def Obligations.LcdSwitch : Prop :=
  ∀ (s : State) (v : Byte),
    (s.lcd.lcdc.getLsbD 7 = v.getLsbD 7 → s.write 0xFF40 v = { s with lcd := { s.lcd with lcdc := v } }) ∧
    (s.lcd.lcdc.getLsbD 7 = true ∧ v.getLsbD 7 = false → s.write 0xFF40 v = { s with
      ppu := { s.ppu with mode := .hBlank }
      lcd := { s.lcd with lcdc := v, ly := 0, stat := s.lcd.stat &&& 0xF8 } }) ∧
    (s.lcd.lcdc.getLsbD 7 = false ∧ v.getLsbD 7 = true → s.write 0xFF40 v = State.enterMode .oamScan 80 { s with
      ppu := { s.ppu with windowLine := 0 }
      lcd := { s.lcd with lcdc := v, ly := 0 } })

/-- The OAM copy: all 160 bytes, each the raw read of its source, whatever the source page (also echo, OAM itself and the
I/O page); the register keeps the page, the window starts, and nothing else changes (20_memory R80, R81, R86; the copy's
timing and reach are the spec's own choice, 92_eei D12). -/
def Obligations.OamDma : Prop :=
  ∀ (s : State) (v : Byte),
    let source : State := { s with lcd := { s.lcd with dma := v } }
    let t : State := s.write 0xFF46 v
    t = { s with mem := t.mem, lcd := { s.lcd with dma := v }, dmaBusy := s.cfg.dmaBusyCycles } ∧
    (∀ i : Nat, i < 160 → t.mem.read (0xFE00 + i) = source.rawRead (BitVec.ofNat 16 (256 * v.toNat + i))) ∧
    ∀ b : Nat, (b < 0xFE00 ∨ 0xFEA0 ≤ b) → t.mem.read b = s.mem.read b

/-! ### Interrupts -/

/-- The interrupt controller: what is pending, which comes first, and what a request, an acknowledgement and a vector are
(60_exceptions R313 to R317). -/
def Obligations.InterruptController : Prop :=
  (∀ (s : State) (k : Nat), k < 5 → s.pending.getLsbD k = (s.ie.getLsbD k && s.iflag.getLsbD k)) ∧
  (∀ bits : BitVec 5, bits ≠ 0 → bits.getLsbD (highestPendingBit bits).val = true ∧
    ∀ k : Nat, k < (highestPendingBit bits).val → bits.getLsbD k = false) ∧
  (∀ (s : State) (id : Fin 5), ∃ f : BitVec 5, s.requestInterrupt id = { s with iflag := f } ∧
    ∀ k : Nat, k < 5 → f.getLsbD k = (decide (k = id.val) || s.iflag.getLsbD k)) ∧
  (∀ (s : State) (b : Fin 5), ∃ f : BitVec 5, s.clearInterrupt b = { s with iflag := f } ∧
    ∀ k : Nat, k < 5 → f.getLsbD k = (!decide (k = b.val) && s.iflag.getLsbD k)) ∧
  interruptVector 0 = 0x0040 ∧ interruptVector 1 = 0x0048 ∧ interruptVector 2 = 0x0050 ∧ interruptVector 3 = 0x0058 ∧
  interruptVector 4 = 0x0060

/-! ### Timer -/

/-- One tick of the timer and the writes that can themselves be a falling edge: the reload of a pending overflow comes
first, then the count; a write to DIV clears all 16 bits, one to TAC stores three; TIMA is incremented when the selected
and enabled counter bit goes from 1 to 0; a write to TIMA cancels a pending reload if the parameter says so
(60_exceptions R341 to R346; the AND gate, the delay, the cancelling and that TAC stores three bits are the spec's own
choices, 92_eei D9 to D11, D16). -/
def Obligations.TimerEvents : Prop :=
  ∀ (s : State) (v : Byte),
    let t : TimerState := s.timer
    let bit : BitVec 2 → Nat := fun sel => if sel = 0 then 9 else if sel = 1 then 3 else if sel = 2 then 5 else 7
    let signal : BitVec 3 → Word → Bool := fun tac ctr => tac.getLsbD 2 && ctr.getLsbD (bit (tac.extractLsb' 0 2))
    let counted : Bool → TimerState → TimerState := fun fell u =>
      if fell = false then u
      else if u.tima = 0xFF then { u with tima := 0, overflowPending := true, overflowDelay := s.cfg.timaReloadDelay }
      else { u with tima := u.tima + 1 }
    let due : Bool := t.overflowPending && decide (t.overflowDelay ≤ 1)
    let reloaded : TimerState := { t with
      tima := if due then t.tma else t.tima
      overflowPending := t.overflowPending && !due
      overflowDelay := if t.overflowPending then t.overflowDelay - 1 else t.overflowDelay }
    s.timerTick = { s with
      timer := counted (signal t.tac t.systemCounter && !signal t.tac (t.systemCounter + 1))
        { reloaded with systemCounter := t.systemCounter + 1 }
      iflag := if due then s.iflag ||| 0b00100 else s.iflag } ∧
    s.write 0xFF04 v = { s with timer := counted (signal t.tac t.systemCounter) { t with systemCounter := 0 } } ∧
    s.write 0xFF07 v = { s with
      timer := counted (signal t.tac t.systemCounter && !signal (v.extractLsb' 0 3) t.systemCounter)
        { t with tac := v.extractLsb' 0 3 } } ∧
    s.write 0xFF05 v = { s with timer := { t with
      tima := v
      overflowPending := t.overflowPending && !s.cfg.timaWriteCancelsReload } }

/-- The timer's rate: with the timer enabled and select `sel`, TIMA counts once per 1024, 16, 64 or 256 ticks, whatever the
counter's phase and for any number of ticks up to the overflow; the counter runs always, so DIV counts once per 256 ticks
(60_exceptions R349; 90_conflicts C1; that a disabled timer's signal is 0 is the spec's own choice, 92_eei D9,
notes/assumptions/20.md). -/
def Obligations.TimerPeriod : Prop :=
  ∀ (s : State) (n : Nat),
    let sel : BitVec 2 := s.timer.tac.extractLsb' 0 2
    let period : Nat := if sel = 0 then 1024 else if sel = 1 then 16 else if sel = 2 then 64 else 256
    let c : Nat := s.timer.systemCounter.toNat
    let t : State := State.timerTick^[n] s
    t.timer.systemCounter = BitVec.ofNat 16 (c + n) ∧
    (s.timer.tac.getLsbD 2 = true → s.timer.overflowPending = false → s.timer.tima.toNat + (c % period + n) / period ≤ 0xFF →
      t.timer.tima.toNat = s.timer.tima.toNat + (c % period + n) / period ∧ t.iflag = s.iflag)

/-! ### PPU -/

/-- A mode entry: the mode and its countdown, STAT bits 1..0 the mode, bit 2 the coincidence, bits 7..3 kept; interrupt 0 on
the entry to VBlank and only there, interrupt 1 by the mode's enable bit or by a coincidence that just became true with bit
6 set; nothing else (60_exceptions R362, R363; when the comparison is re-evaluated is the spec's own choice, 92_eei D19, D25,
notes/assumptions/20.md). -/
def Obligations.ModeEntry : Prop :=
  ∀ (s : State) (m : Mode) (d : Nat),
    let t : State := s.enterMode m d
    let coincides : Bool := decide (s.lcd.ly = s.lcd.lyc)
    let enabled : Bool := match m with
      | .hBlank => s.lcd.stat.getLsbD 3
      | .vBlank => s.lcd.stat.getLsbD 4
      | .oamScan => s.lcd.stat.getLsbD 5
      | .drawing => false
    t = { s with
      ppu := { s.ppu with mode := m, cyclesRemaining := d }
      lcd := { s.lcd with stat := t.lcd.stat }
      iflag := t.iflag } ∧
    t.lcd.stat.extractLsb' 0 2 = m.code ∧ t.lcd.stat.getLsbD 2 = coincides ∧
    t.lcd.stat.extractLsb' 3 5 = s.lcd.stat.extractLsb' 3 5 ∧
    t.iflag.getLsbD 0 = (s.iflag.getLsbD 0 || decide (m = .vBlank)) ∧
    t.iflag.getLsbD 1 = (s.iflag.getLsbD 1 || enabled || (coincides && !s.lcd.stat.getLsbD 2 && s.lcd.stat.getLsbD 6)) ∧
    t.iflag.extractLsb' 2 3 = s.iflag.extractLsb' 2 3

/-- One tick of the PPU: frozen with the LCD off; else the countdown, and at its end the transition of the mode, with LY
updated before the entry and `FrameReady` before it (60_exceptions R361, R365 to R368; that the
Drawing length counts the selected sprites times the penalty is the spec's own choice 92_eei D18, what a VBlank line's end
re-evaluates D19, the sprite gate in that length D20, the window counter's reset D21, notes/assumptions/20.md; a Drawing
length that leaves HBlank no cycle is the model's choice, notes/assumptions/11.md). -/
def Obligations.PpuTransitions : Prop :=
  ∀ s : State,
    let u : State := { s with ppu := { s.ppu with cyclesRemaining := s.ppu.cyclesRemaining - 1 } }
    let line : Nat := s.lcd.ly.toNat
    let len : Nat := 172 + s.cfg.spriteDrawPenalty * (s.selectSprites line).length
    (s.lcd.lcdc.getLsbD 7 = false → s.ppuTick = s) ∧
    (s.lcd.lcdc.getLsbD 7 = true ∧ 2 ≤ s.ppu.cyclesRemaining → s.ppuTick = u) ∧
    (s.lcd.lcdc.getLsbD 7 = true ∧ s.ppu.cyclesRemaining ≤ 1 →
      s.ppuTick = match s.ppu.mode with
        | .oamScan => State.enterMode .drawing len { u with ppu := { u.ppu with drawLen := len } }
        | .drawing => State.enterMode .hBlank (456 - 80 - s.ppu.drawLen) (u.renderLine line)
        | .hBlank =>
          if s.lcd.ly = 143 then
            State.enterMode .vBlank 456 { u with frameCount := s.frameCount + 1, lcd := { s.lcd with ly := 144 } }
          else State.enterMode .oamScan 80 { u with lcd := { s.lcd with ly := s.lcd.ly + 1 } }
        | .vBlank =>
          if s.lcd.ly = 153 then
            State.enterMode .oamScan 80 { u with ppu := { u.ppu with windowLine := 0 }, lcd := { s.lcd with ly := 0 } }
          else State.evalCoincidence
            { u with ppu := { u.ppu with cyclesRemaining := 456 }, lcd := { s.lcd with ly := s.lcd.ly + 1 } })

/-- A frame, from OamScan of line 0 with the LCD on: line `k` of the picture starts in OamScan 456 * `k` ticks later, is in
Drawing 80 ticks after that and in HBlank 80 + `drawLen` ticks after that; lines 144 to 153 are VBlank; after 70224 ticks
line 0 starts again, `FrameReady` has fired once and interrupt 0 is requested (60_exceptions R364, which the spec marks as
derived, for every sprite penalty that leaves HBlank a cycle; that the Drawing length counts the
selected sprites and that the window's line counter is 0 at the wrap are the spec's own choices, 92_eei D18, D21;
notes/assumptions/20.md). -/
def Obligations.FrameSchedule : Prop :=
  ∀ s : State, s.lcd.lcdc.getLsbD 7 = true → s.ppu.mode = .oamScan → s.lcd.ly = 0 → s.ppu.cyclesRemaining = 80 →
    s.cfg.spriteDrawPenalty ≤ 20 →
    (∀ k : Nat, k ≤ 143 →
      (let t : State := State.ppuTick^[456 * k] s
       t.ppu.mode = .oamScan ∧ t.lcd.ly.toNat = k ∧ t.ppu.cyclesRemaining = 80 ∧ t.frameCount = s.frameCount) ∧
      (let t : State := State.ppuTick^[456 * k + 80] s
       t.ppu.mode = .drawing ∧ t.lcd.ly.toNat = k ∧ t.ppu.cyclesRemaining = t.ppu.drawLen ∧
       (State.ppuTick^[456 * k + 80 + t.ppu.drawLen] s).ppu.mode = .hBlank)) ∧
    (∀ k : Nat, 144 ≤ k → k ≤ 153 →
      (let t : State := State.ppuTick^[456 * k] s
       t.ppu.mode = .vBlank ∧ t.lcd.ly.toNat = k ∧ t.ppu.cyclesRemaining = 456 ∧ t.frameCount = s.frameCount + 1)) ∧
    (let t : State := State.ppuTick^[70224] s
     t.ppu.mode = .oamScan ∧ t.lcd.ly = 0 ∧ t.ppu.cyclesRemaining = 80 ∧ t.ppu.windowLine = 0 ∧
     t.frameCount = s.frameCount + 1 ∧ t.iflag.getLsbD 0 = true)

/-- Rendering a line writes the 160 cells of that line, and the window's line counter if the window drew; no other cell and
nothing else changes (60_exceptions R366, R374, R375). When the window drew (the gate by LCDC bit 0 and its parameter, `WX` at
most 166, the test per line) is the spec's own choice, 92_eei D20, D21; notes/assumptions/20.md. -/
def Obligations.RenderLineFrame : Prop :=
  ∀ (s : State) (line : Nat),
    let t : State := s.renderLine line
    let windowDrew : Bool := s.bgEnabled && s.lcd.lcdc.getLsbD 5 && decide (s.lcd.wy.toNat ≤ line) && decide (s.lcd.wx.toNat ≤ 166)
    t = { s with
      fb := t.fb
      ppu := { s.ppu with windowLine := if windowDrew then s.ppu.windowLine + 1 else s.ppu.windowLine } } ∧
    (∀ x : Nat, x < 160 → t.fb.getPixel x line = s.pixelShade line x) ∧
    ∀ x y : Nat, y ≠ line → t.fb.getPixel x y = s.fb.getPixel x y

/-- Background and window: the pixel's tile map, tile, row and column, the color id from the two bitplanes, the shade from
BGP (60_exceptions R372, R373, R375, R378; map and tile addresses, the bitplanes and the palette layout are the spec's own
choices, 92_eei D20 to D22). -/
def Obligations.BackgroundAndWindow : Prop :=
  ∀ (s : State) (line x : Nat),
    let lcdc : Byte := s.lcd.lcdc
    let drawn : Bool := lcdc.getLsbD 0 || !s.cfg.lcdcGatesBgObj
    let inWindow : Bool := drawn && lcdc.getLsbD 5 && decide (s.lcd.wy.toNat ≤ line) && decide (s.lcd.wx.toNat ≤ 166) &&
      decide (s.lcd.wx.toNat ≤ x + 7)
    let px : Nat := if inWindow then x + 7 - s.lcd.wx.toNat else (s.lcd.scx.toNat + x) % 256
    let py : Nat := if inWindow then s.ppu.windowLine.toNat else (s.lcd.scy.toNat + line) % 256
    let map : Nat := if lcdc.getLsbD (if inWindow then 6 else 3) then 0x9C00 else 0x9800
    let idx : Byte := s.mem.read (map + 32 * (py / 8) + px / 8)
    let base : Nat := if lcdc.getLsbD 4 then 0x8000 + 16 * idx.toNat else (0x9000 + 16 * idx.toInt).toNat
    let lo : Byte := s.mem.read (base + 2 * (py % 8))
    let hi : Byte := s.mem.read (base + 2 * (py % 8) + 1)
    let id : BitVec 2 := BitVec.ofNat 2 (2 * (hi.getLsbD (7 - px % 8)).toNat + (lo.getLsbD (7 - px % 8)).toNat)
    s.bgWindowPixel line x =
      if drawn then Pixel.mk id ((s.lcd.bgp >>> (2 * id.toNat)).setWidth 2) else Pixel.mk 0 0

/-- Sprite selection: in OAM order, at most ten, all covering the line, and a sprite that covers it and is left out comes
after ten that were taken; none with sprites off (60_exceptions R371; the offsets, the cut at ten and the gate are the
spec's own choices, 92_eei D20, D23). -/
def Obligations.SpriteSelection : Prop :=
  ∀ (s : State) (line : Nat),
    let sel : List Nat := s.selectSprites line
    let height : Int := if s.lcd.lcdc.getLsbD 2 then 16 else 8
    let covers : Nat → Prop := fun i =>
      ((s.mem.read (0xFE00 + 4 * i)).toNat : Int) - 16 ≤ line ∧ (line : Int) < ((s.mem.read (0xFE00 + 4 * i)).toNat : Int) - 16 + height
    ((s.lcd.lcdc.getLsbD 1 = false ∧ s.cfg.lcdcGatesBgObj = true) → sel = []) ∧
    sel.length ≤ 10 ∧ sel.Pairwise (fun i j => i < j) ∧ (∀ i ∈ sel, i < 40 ∧ covers i) ∧
    ((s.lcd.lcdc.getLsbD 1 = true ∨ s.cfg.lcdcGatesBgObj = false) →
      ∀ i : Nat, i < 40 → covers i → i ∉ sel → sel.length = 10 ∧ ∀ j ∈ sel, j < i)

/-- The sprite renderer: the selected sprites stand in order of X, then of OAM index; a sprite's color id at a column is its
tile's pixel, flipped as its attributes say, 0 outside its eight columns; at a column the first sprite with a non-zero id
decides, and gives the column to a background pixel of non-zero id if its priority bit is set; with none, the background
shows (60_exceptions R376, R378; sprite tile addressing, the tall tile pair and the palette layout are the spec's own choice
92_eei D22, the offsets and that no lower sprite shows through its choice D23; notes/assumptions/20.md). -/
def Obligations.SpritePriority : Prop :=
  ∀ (s : State) (line x : Nat),
    let order : List Nat := s.spriteOrder line
    let bg : Pixel := s.bgWindowPixel line x
    let oam : Nat → Nat → Byte := fun i k => s.mem.read (0xFE00 + 4 * i + k)
    let xOf : Nat → Nat := fun i => (oam i 1).toNat
    let attr : Nat → Byte := fun i => oam i 3
    let tall : Bool := s.lcd.lcdc.getLsbD 2
    let row : Nat → Nat := fun i =>
      let r := line + 16 - (oam i 0).toNat
      if (attr i).getLsbD 6 then (if tall then 15 else 7) - r else r
    let bit : Nat → Nat := fun i => if (attr i).getLsbD 5 then x + 8 - xOf i else 7 - (x + 8 - xOf i)
    let tile : Nat → Byte := fun i => if tall then oam i 2 &&& 0xFE else oam i 2
    let plane : Nat → Nat → Bool := fun i k => (s.mem.read (0x8000 + 16 * (tile i).toNat + 2 * row i + k)).getLsbD (bit i)
    order.Perm (s.selectSprites line) ∧
    order.Pairwise (fun i j => xOf i < xOf j ∨ (xOf i = xOf j ∧ i < j)) ∧
    (∀ i ∈ order, s.spriteId line x i =
      if xOf i ≤ x + 8 ∧ x < xOf i then BitVec.ofNat 2 (2 * (plane i 1).toNat + (plane i 0).toNat) else 0) ∧
    ((∀ i ∈ order, s.spriteId line x i = 0) → s.pixelShade line x = bg.shade) ∧
    ∀ (before : List Nat) (i : Nat) (behind : List Nat), order = before ++ i :: behind →
      (∀ j ∈ before, s.spriteId line x j = 0) → s.spriteId line x i ≠ 0 →
      s.pixelShade line x =
        if (attr i).getLsbD 7 = true ∧ bg.id ≠ 0 then bg.shade
        else ((if (attr i).getLsbD 4 then s.lcd.obp1 else s.lcd.obp0) >>> (2 * (s.spriteId line x i).toNat)).setWidth 2

/-! ### Joypad -/

/-- The joypad register, the host's button calls and their queue: a bit of the low nibble is 0 when a selected group has that button
pressed; a write stores the two select bits; only a press edge of a selected group's button requests interrupt 4;
before a step the head of the queue is taken off it and its calls are applied in order, and an empty queue changes nothing
(60_exceptions R380, R381, 00_scope R3; the layout and when the host may act are the spec's own choices, 92_eei D16, D26,
D31, and the queue's form is the model's, notes/assumptions/6.md). -/
def Obligations.Joypad : Prop :=
  ∀ (s : State) (v : Byte) (button : Button) (pressed : Bool),
    let directions : Bool := !s.joySel.getLsbD 0
    let actions : Bool := !s.joySel.getLsbD 1
    let n : BitVec 4 := (s.read 0xFF00).extractLsb' 0 4
    (s.read 0xFF00).extractLsb' 4 4 = 0b11#2 ++ s.joySel ∧
    n.getLsbD 0 = !((directions && s.buttons.right) || (actions && s.buttons.a)) ∧
    n.getLsbD 1 = !((directions && s.buttons.left) || (actions && s.buttons.b)) ∧
    n.getLsbD 2 = !((directions && s.buttons.up) || (actions && s.buttons.select)) ∧
    n.getLsbD 3 = !((directions && s.buttons.down) || (actions && s.buttons.start)) ∧
    s.write 0xFF00 v = { s with joySel := v.extractLsb' 4 2 } ∧
    (let selected : Bool := if button ∈ [Button.right, .left, .up, .down] then directions else actions
     s.setButton { button := button, pressed := pressed } = { s with
       buttons := s.buttons.set pressed button
       iflag := if pressed = true ∧ s.buttons.get button = false ∧ selected = true then s.iflag ||| 0b10000 else s.iflag }) ∧
    (s.buttons.set pressed button).get button = pressed ∧
    (∀ other : Button, other ≠ button → (s.buttons.set pressed button).get other = s.buttons.get other) ∧
    (s.inputs = [] → s.hostActions = s) ∧
    (∀ later : List (List ButtonEvent), s.inputs = [] :: later → s.hostActions = { s with inputs := later }) ∧
    ∀ (call : ButtonEvent) (calls : List ButtonEvent) (later : List (List ButtonEvent)), s.inputs = (call :: calls) :: later →
      s.hostActions = State.hostActions (State.setButton call { s with inputs := calls :: later })

/-! ### The whole machine -/

/-- Power-on as a program sees it: registers, flip-flops, every named register, memory and the frame buffer (70_reset R400 to
R409: the spec's own choice, 92_eei D1; notes/assumptions/13.md). That the cartridge ROM, 0x0000 to 0x7FFF, reads 0x00 is
not D1 but the model's own choice: R407 has the launch image there, which is loaded from outside (DEDUCED,
notes/assumptions/3.md), and a byte that no image gives reads 0x00 (DESIGN CHOICE, notes/assumptions/4.md). -/
def Obligations.ResetState : Prop :=
  let s : State := State.reset
  s.getStackPair .af = 0x01B0 ∧ s.getPair .bc = 0x0013 ∧ s.getPair .de = 0x00D8 ∧ s.getPair .hl = 0x014D ∧
  s.regs.sp = 0xFFFE ∧ s.regs.pc = 0x0100 ∧
  s.ctl = { ime := false, halted := false, haltBug := false, stopped := false, eiPending := false } ∧
  s.read 0xFFFF = 0x00 ∧ s.read 0xFF0F = 0xE1 ∧ s.read 0xFF00 = 0xCF ∧ s.read 0xFF01 = 0x00 ∧ s.read 0xFF02 = 0x00 ∧
  s.timer = { systemCounter := 0xABCC, tima := 0x00, tma := 0x00, tac := 0, overflowPending := false, overflowDelay := 0 } ∧
  s.ppu = { mode := .oamScan, cyclesRemaining := 80, drawLen := 172, windowLine := 0 } ∧
  s.read 0xFF40 = 0x91 ∧ s.read 0xFF41 = 0x86 ∧ s.read 0xFF42 = 0x00 ∧ s.read 0xFF43 = 0x00 ∧ s.read 0xFF44 = 0x00 ∧
  s.read 0xFF45 = 0x00 ∧ s.read 0xFF46 = 0xFF ∧ s.read 0xFF47 = 0xFC ∧ s.read 0xFF48 = 0xFF ∧ s.read 0xFF49 = 0xFF ∧
  s.read 0xFF4A = 0x00 ∧ s.read 0xFF4B = 0x00 ∧ s.dmaBusy = 0 ∧ (∀ a : Nat, s.mem.read a = 0x00) ∧
  ∀ x y : Nat, s.fb.getPixel x y = 0

/-- The invariant holds at power-on. The whole statement rests on the values of `State.reset`, which are the spec's own choice
(92_eei D1, 70_reset R400 to R409; notes/assumptions/13.md) and no rule of the source. -/
def Obligations.ResetMeetsInvariant : Prop := State.reset.Inv

/-- A step keeps the invariant, from every state that meets it: memory stays canonical and lists storage only, the frame
buffer keeps its 144 lines of 160 cells, STAT mirrors the mode, LY stays a line number and a picture line outside VBlank,
the Drawing length stays in its range, and the CPU is never halted with the halt bug set. -/
def Obligations.StepKeepsInvariant : Prop := ∀ s t : State, s.Inv → step s = .next t → t.Inv

/-- Nothing stops the machine: where every illegal opcode is a no-op, every state has a next one; and in any case a step
that has none is the fatal unknown opcode of an illegal byte taken out of that set (60_exceptions R310: "The machine raises
no synchronous exception", 45_system R297). -/
def Obligations.StepNeverStops : Prop :=
  ∀ s : State,
    (s.allIllegalAreNoOps → ∃ t, step s = .next t) ∧
    ((∃ t, step s = .next t) ∨ ∃ (op : Byte) (i : Instr) (pc : Word), (op, i) ∈ Instr.illegalRows ∧
      op ∉ s.cfg.illegalOpcodes ∧ step s = .fault (.fatalUnknownOpcode op pc))

/-- No step changes a launch parameter, un-stops the CPU, or takes back a frame; with no mapper none changes a byte of
cartridge ROM as the CPU reads it or the mapper's state (00_scope section 4, 20_memory R52, R56, 10_state R19). Choices, not
the source's words: the parameters are constant (DEDUCED, notes/assumptions/2.md), nothing clears `Stopped` (the spec's own
choice, 92_eei D5), ROM is kept with no mapper (the spec's own choice, D17; notes/assumptions/14.md), frames are counted in
a field of the model (notes/assumptions/1.md). -/
def Obligations.StepNeverChanges : Prop :=
  ∀ s t : State, step s = .next t →
    t.cfg = s.cfg ∧
    (s.cfg.mapper = .noMapper → t.mapperState = s.mapperState ∧ ∀ a : Word, a.toNat ≤ 0x7FFF → t.read a = s.read a) ∧
    (s.ctl.stopped = true → t.ctl.stopped = true) ∧ s.frameCount ≤ t.frameCount

/-- Only the instructions of the table of flag writers change a flag; among the others every one leaves `F` alone
(10_state R13). -/
def Obligations.OnlyFlagWritersChangeFlags : Prop :=
  ∀ (i : Instr) (s t : State), ¬ i.writesFlags → exec i s = .next t → t.regs.flags = s.regs.flags

/-- Only `HALT`, `STOP`, `DI`, `EI` and `RETI` change a control flip-flop; only the control transfers change `PC` (which is
past the instruction already); only the listed ones change `SP`; and every instruction returns 4 to 24 cycles, a multiple
of 4 (10_state R14 to R20, 44_control, 70_reset R429; that `STOP` does no more than set `Stopped` is the spec's own choice,
92_eei D5, and the cycle counts are general knowledge, notes/assumptions/18.md). -/
def Obligations.WritersOfControlState : Prop :=
  ∀ (i : Instr) (s t : State), exec i s = .next t →
    (¬ i.writesCtl → t.ctl = s.ctl) ∧ (¬ i.writesPc → t.regs.pc = s.regs.pc) ∧ (¬ i.writesSp → t.regs.sp = s.regs.sp) ∧
    t.cycles ∈ [4, 8, 12, 16, 20, 24]
end

