-- ==== Sys2Proof/Laws/Memory.lean ====
section
/-! SUPPORT. The laws of storage by number: a read after a write, the entries a write leaves, and that a write keeps the
canonical form. None of them needs the list to be canonical, but for the last. -/

namespace Sys2Proof.Machine

variable {α : Type}

theorem Sparse.mem_insert {k : Nat} {v : α} {m : List (Nat × α)} {e : Nat × α} :
    e ∈ Sparse.insert k v m ↔ e = (k, v) ∨ e ∈ m := by
  induction m with
  | nil => simp [Sparse.insert]
  | cons x m ih =>
    obtain ⟨j, w⟩ := x
    unfold Sparse.insert
    split
    · simp
    · simp [ih, or_left_comm]

theorem Sparse.read_insert (d : α) {k : Nat} (v : α) {m : List (Nat × α)} (h : ∀ e ∈ m, e.1 ≠ k) (j : Nat) :
    Sparse.read d (Sparse.insert k v m) j = if k = j then v else Sparse.read d m j := by
  induction m with
  | nil => simp [Sparse.insert, Sparse.read]
  | cons x m ih =>
    obtain ⟨i, w⟩ := x
    have hik : i ≠ k := h (i, w) (by simp)
    have ih' := ih (fun e he => h e (by simp [he]))
    unfold Sparse.insert
    split
    · simp [Sparse.read]
    · simp only [Sparse.read, ih']
      by_cases hij : i = j
      · subst hij; simp [Ne.symm hik]
      · simp [hij]

theorem Sparse.read_filter_ne (d : α) (m : List (Nat × α)) (k j : Nat) :
    Sparse.read d (m.filter (fun e => decide (e.1 ≠ k))) j = if k = j then d else Sparse.read d m j := by
  induction m with
  | nil => simp [Sparse.read]
  | cons x m ih =>
    obtain ⟨i, w⟩ := x
    by_cases hi : i = k
    · subst hi
      simp only [List.filter_cons, ne_eq, not_true_eq_false, decide_false, Bool.false_eq_true, if_false, ih, Sparse.read]
      split <;> rfl
    · simp only [List.filter_cons, ne_eq, hi, not_false_eq_true, decide_true, if_true, Sparse.read, ih]
      by_cases hij : i = j
      · subst hij; simp [Ne.symm hi]
      · simp [hij]

/-- A read after a write: the written value at that number, the old one elsewhere. -/
theorem Sparse.read_write [DecidableEq α] (d : α) (m : List (Nat × α)) (k : Nat) (v : α) (j : Nat) :
    Sparse.read d (Sparse.write d m k v) j = if k = j then v else Sparse.read d m j := by
  unfold Sparse.write
  by_cases hv : v = d
  · simp only [hv, if_true, Sparse.read_filter_ne]
  · simp only [hv, if_false]
    rw [Sparse.read_insert d v (by simp)]
    split
    · rfl
    · next h => rw [Sparse.read_filter_ne]; simp [h]

/-- What a list holds after a write: the new entry, unless it is the default, and the old ones at other numbers. -/
theorem Sparse.mem_write [DecidableEq α] {d : α} {m : List (Nat × α)} {k : Nat} {v : α} {e : Nat × α} :
    e ∈ Sparse.write d m k v ↔ (e = (k, v) ∧ v ≠ d) ∨ (e ∈ m ∧ e.1 ≠ k) := by
  unfold Sparse.write
  by_cases hv : v = d
  · simp [hv]
  · simp [hv, Sparse.mem_insert]

theorem Sparse.pairwise_insert {k : Nat} {v : α} {m : List (Nat × α)} (hm : m.Pairwise (fun e f => e.1 < f.1))
    (h : ∀ e ∈ m, e.1 ≠ k) : (Sparse.insert k v m).Pairwise (fun e f => e.1 < f.1) := by
  induction m with
  | nil => simp [Sparse.insert]
  | cons x m ih =>
    obtain ⟨i, w⟩ := x
    rw [List.pairwise_cons] at hm
    have hik : i ≠ k := h (i, w) (by simp)
    unfold Sparse.insert
    split
    · next hki =>
      rw [List.pairwise_cons, List.pairwise_cons]
      refine ⟨fun e he => ?_, hm.1, hm.2⟩
      rcases List.mem_cons.mp he with rfl | he
      · exact hki
      · exact Nat.lt_trans hki (hm.1 e he)
    · next hki =>
      rw [List.pairwise_cons]
      refine ⟨fun e he => ?_, ih hm.2 (fun e he => h e (by simp [he]))⟩
      rcases Sparse.mem_insert.mp he with rfl | he
      · simp; omega
      · exact hm.1 e he

/-- A write keeps the canonical form. -/
theorem Sparse.wf_write [DecidableEq α] {d : α} {m : List (Nat × α)} (hm : Sparse.wf d m) (k : Nat) (v : α) :
    Sparse.wf d (Sparse.write d m k v) := by
  have hp : (m.filter (fun e => decide (e.1 ≠ k))).Pairwise (fun e f => e.1 < f.1) := hm.1.filter _
  refine ⟨?_, fun e he => ?_⟩
  · unfold Sparse.write
    by_cases hv : v = d
    · simpa [hv] using hp
    · simpa [hv] using Sparse.pairwise_insert (v := v) hp (by simp)
  · rcases Sparse.mem_write.mp he with ⟨rfl, hv⟩ | ⟨he, -⟩
    · exact hv
    · exact hm.2 e he

theorem Sparse.read_of_lt {d : α} {m : List (Nat × α)} {k : Nat} (h : ∀ e ∈ m, k < e.1) : Sparse.read d m k = d := by
  induction m with
  | nil => rfl
  | cons x m ih =>
    obtain ⟨i, w⟩ := x
    have hik : k < i := h (i, w) (by simp)
    simp only [Sparse.read]
    rw [if_neg (by omega), ih (fun e he => h e (by simp [he]))]

/-- Two canonical lists that read alike are equal. -/
theorem Sparse.ext [DecidableEq α] {d : α} {m n : List (Nat × α)} (hm : Sparse.wf d m) (hn : Sparse.wf d n)
    (h : ∀ k, Sparse.read d m k = Sparse.read d n k) : m = n := by
  induction m generalizing n with
  | nil =>
    cases n with
    | nil => rfl
    | cons y n =>
      have := h y.1
      simp [Sparse.read] at this
      exact absurd this.symm (hn.2 y (by simp))
  | cons x m ih =>
    obtain ⟨i, w⟩ := x
    have hmp := List.pairwise_cons.mp hm.1
    cases n with
    | nil =>
      have := h i
      simp [Sparse.read] at this
      exact absurd this (hm.2 (i, w) (by simp))
    | cons y n =>
      obtain ⟨j, z⟩ := y
      have hnp := List.pairwise_cons.mp hn.1
      have hw : w ≠ d := hm.2 (i, w) (by simp)
      have hz : z ≠ d := hn.2 (j, z) (by simp)
      have hij : i = j := by
        rcases Nat.lt_trichotomy i j with hlt | heq | hgt
        · have := h i
          rw [show Sparse.read d ((i, w) :: m) i = w by simp [Sparse.read],
            Sparse.read_of_lt (d := d) (m := (j, z) :: n) (fun e he => by
              rcases List.mem_cons.mp he with rfl | he
              · exact hlt
              · exact Nat.lt_trans hlt (hnp.1 e he))] at this
          exact absurd this hw
        · exact heq
        · have := h j
          rw [show Sparse.read d ((j, z) :: n) j = z by simp [Sparse.read],
            Sparse.read_of_lt (d := d) (m := (i, w) :: m) (fun e he => by
              rcases List.mem_cons.mp he with rfl | he
              · exact hgt
              · exact Nat.lt_trans hgt (hmp.1 e he))] at this
          exact absurd this.symm hz
      subst hij
      have hwz : w = z := by simpa [Sparse.read] using h i
      subst hwz
      congr 1
      refine ih ⟨hmp.2, fun e he => hm.2 e (by simp [he])⟩ ⟨hnp.2, fun e he => hn.2 e (by simp [he])⟩ fun k => ?_
      have hk := h k
      simp only [Sparse.read] at hk
      by_cases hik : i = k
      · subst hik
        rw [Sparse.read_of_lt hmp.1, Sparse.read_of_lt hnp.1]
      · simpa [hik] using hk

/-- A read of memory after a write of memory. -/
theorem Memory.read_write (m : Memory) (a : Nat) (v : Byte) (b : Nat) :
    (m.write a v).read b = if a = b then v else m.read b := Sparse.read_write _ m a v b

@[simp] theorem Memory.read_write_self (m : Memory) (a : Nat) (v : Byte) : (m.write a v).read a = v := by
  simp [Memory.read_write]

theorem Memory.read_write_of_ne (m : Memory) {a b : Nat} (h : a ≠ b) (v : Byte) : (m.write a v).read b = m.read b := by
  simp [Memory.read_write, h]

/-- A write of memory keeps its canonical form. -/
theorem Memory.wf_write {m : Memory} (hm : m.wf) (a : Nat) (v : Byte) : (m.write a v).wf := Sparse.wf_write hm a v

/-- The addresses a memory lists after a write. -/
theorem Memory.mem_write {m : Memory} {a : Nat} {v : Byte} {c : Host.Cell} (h : c ∈ m.write a v) : c.1 = a ∨ c ∈ m := by
  rcases Sparse.mem_write.mp h with ⟨rfl, -⟩ | ⟨h, -⟩
  · exact .inl rfl
  · exact .inr h

/-- A line of the frame buffer after another is replaced. -/
theorem FrameBuffer.line_setLine (fb : FrameBuffer) (y : Nat) (l : Line) (z : Nat) :
    (fb.setLine y l).line z = if y = z then l else fb.line z := Sparse.read_write _ fb y l z

/-- Replacing one of the lines 0..143 by one of 160 cells keeps the frame buffer's canonical form. -/
theorem FrameBuffer.wf_setLine {fb : FrameBuffer} (h : fb.wf) {y : Nat} (hy : y < 144) {l : Line} (hl : l.length = 160) :
    (fb.setLine y l).wf := by
  refine ⟨Sparse.wf_write h.1 y l, fun e he => ?_⟩
  rcases Sparse.mem_write.mp he with ⟨rfl, -⟩ | ⟨he, -⟩
  · exact ⟨hy, hl⟩
  · exact h.2 e he

end Sys2Proof.Machine
end

