-- ==== Sys2Proof/Laws/State.lean ====
section
/-! SUPPORT. The small lemmas of every update of the state: one per field it leaves alone, and what it writes. All are
true by unfolding, so no later proof unfolds a record update. -/

namespace Sys2Proof.Machine

@[simp] theorem finish_eq (n : Nat) (s : State) : s.finish n = .next { s with cycles := n } := rfl

@[simp] theorem setReg_cfg (r : Reg8) (v : Byte) (s : State) : (s.setReg r v).cfg = s.cfg := by cases r <;> rfl
@[simp] theorem setReg_ctl (r : Reg8) (v : Byte) (s : State) : (s.setReg r v).ctl = s.ctl := by cases r <;> rfl
@[simp] theorem setReg_ie (r : Reg8) (v : Byte) (s : State) : (s.setReg r v).ie = s.ie := by cases r <;> rfl
@[simp] theorem setReg_iflag (r : Reg8) (v : Byte) (s : State) : (s.setReg r v).iflag = s.iflag := by cases r <;> rfl
@[simp] theorem setReg_timer (r : Reg8) (v : Byte) (s : State) : (s.setReg r v).timer = s.timer := by cases r <;> rfl
@[simp] theorem setReg_ppu (r : Reg8) (v : Byte) (s : State) : (s.setReg r v).ppu = s.ppu := by cases r <;> rfl
@[simp] theorem setReg_lcd (r : Reg8) (v : Byte) (s : State) : (s.setReg r v).lcd = s.lcd := by cases r <;> rfl
@[simp] theorem setReg_dmaBusy (r : Reg8) (v : Byte) (s : State) : (s.setReg r v).dmaBusy = s.dmaBusy := by cases r <;> rfl
@[simp] theorem setReg_joySel (r : Reg8) (v : Byte) (s : State) : (s.setReg r v).joySel = s.joySel := by cases r <;> rfl
@[simp] theorem setReg_buttons (r : Reg8) (v : Byte) (s : State) : (s.setReg r v).buttons = s.buttons := by cases r <;> rfl
@[simp] theorem setReg_sb (r : Reg8) (v : Byte) (s : State) : (s.setReg r v).sb = s.sb := by cases r <;> rfl
@[simp] theorem setReg_sc (r : Reg8) (v : Byte) (s : State) : (s.setReg r v).sc = s.sc := by cases r <;> rfl
@[simp] theorem setReg_mem (r : Reg8) (v : Byte) (s : State) : (s.setReg r v).mem = s.mem := by cases r <;> rfl
@[simp] theorem setReg_mapperState (r : Reg8) (v : Byte) (s : State) : (s.setReg r v).mapperState = s.mapperState := by cases r <;> rfl
@[simp] theorem setReg_fb (r : Reg8) (v : Byte) (s : State) : (s.setReg r v).fb = s.fb := by cases r <;> rfl
@[simp] theorem setReg_frameCount (r : Reg8) (v : Byte) (s : State) : (s.setReg r v).frameCount = s.frameCount := by cases r <;> rfl
@[simp] theorem setReg_inputs (r : Reg8) (v : Byte) (s : State) : (s.setReg r v).inputs = s.inputs := by cases r <;> rfl
@[simp] theorem setReg_cycles (r : Reg8) (v : Byte) (s : State) : (s.setReg r v).cycles = s.cycles := by cases r <;> rfl
@[simp] theorem setReg_regs_flags (r : Reg8) (v : Byte) (s : State) : (s.setReg r v).regs.flags = s.regs.flags := by cases r <;> rfl
@[simp] theorem setReg_regs_sp (r : Reg8) (v : Byte) (s : State) : (s.setReg r v).regs.sp = s.regs.sp := by cases r <;> rfl
@[simp] theorem setReg_regs_pc (r : Reg8) (v : Byte) (s : State) : (s.setReg r v).regs.pc = s.regs.pc := by cases r <;> rfl
@[simp] theorem getReg_setReg_self (r : Reg8) (v : Byte) (s : State) : (s.setReg r v).getReg r = v := by cases r <;> rfl
theorem getReg_setReg_of_ne {r q : Reg8} (h : q ≠ r) (v : Byte) (s : State) : (s.setReg r v).getReg q = s.getReg q := by
  cases r <;> cases q <;> first | rfl | exact absurd rfl h
@[simp] theorem setReg_getReg (r : Reg8) (s : State) : s.setReg r (s.getReg r) = s := by cases r <;> rfl
@[simp] theorem setReg_a_eq (v : Byte) (s : State) : s.setReg .a v = { s with regs := { s.regs with a := v } } := rfl

@[simp] theorem setFlags_cfg (f : Flags) (s : State) : (s.setFlags f).cfg = s.cfg := rfl
@[simp] theorem setFlags_ctl (f : Flags) (s : State) : (s.setFlags f).ctl = s.ctl := rfl
@[simp] theorem setFlags_ie (f : Flags) (s : State) : (s.setFlags f).ie = s.ie := rfl
@[simp] theorem setFlags_iflag (f : Flags) (s : State) : (s.setFlags f).iflag = s.iflag := rfl
@[simp] theorem setFlags_timer (f : Flags) (s : State) : (s.setFlags f).timer = s.timer := rfl
@[simp] theorem setFlags_ppu (f : Flags) (s : State) : (s.setFlags f).ppu = s.ppu := rfl
@[simp] theorem setFlags_lcd (f : Flags) (s : State) : (s.setFlags f).lcd = s.lcd := rfl
@[simp] theorem setFlags_dmaBusy (f : Flags) (s : State) : (s.setFlags f).dmaBusy = s.dmaBusy := rfl
@[simp] theorem setFlags_joySel (f : Flags) (s : State) : (s.setFlags f).joySel = s.joySel := rfl
@[simp] theorem setFlags_buttons (f : Flags) (s : State) : (s.setFlags f).buttons = s.buttons := rfl
@[simp] theorem setFlags_sb (f : Flags) (s : State) : (s.setFlags f).sb = s.sb := rfl
@[simp] theorem setFlags_sc (f : Flags) (s : State) : (s.setFlags f).sc = s.sc := rfl
@[simp] theorem setFlags_mem (f : Flags) (s : State) : (s.setFlags f).mem = s.mem := rfl
@[simp] theorem setFlags_mapperState (f : Flags) (s : State) : (s.setFlags f).mapperState = s.mapperState := rfl
@[simp] theorem setFlags_fb (f : Flags) (s : State) : (s.setFlags f).fb = s.fb := rfl
@[simp] theorem setFlags_frameCount (f : Flags) (s : State) : (s.setFlags f).frameCount = s.frameCount := rfl
@[simp] theorem setFlags_inputs (f : Flags) (s : State) : (s.setFlags f).inputs = s.inputs := rfl
@[simp] theorem setFlags_cycles (f : Flags) (s : State) : (s.setFlags f).cycles = s.cycles := rfl
@[simp] theorem setFlags_regs_a (f : Flags) (s : State) : (s.setFlags f).regs.a = s.regs.a := rfl
@[simp] theorem setFlags_regs_b (f : Flags) (s : State) : (s.setFlags f).regs.b = s.regs.b := rfl
@[simp] theorem setFlags_regs_c (f : Flags) (s : State) : (s.setFlags f).regs.c = s.regs.c := rfl
@[simp] theorem setFlags_regs_d (f : Flags) (s : State) : (s.setFlags f).regs.d = s.regs.d := rfl
@[simp] theorem setFlags_regs_e (f : Flags) (s : State) : (s.setFlags f).regs.e = s.regs.e := rfl
@[simp] theorem setFlags_regs_h (f : Flags) (s : State) : (s.setFlags f).regs.h = s.regs.h := rfl
@[simp] theorem setFlags_regs_l (f : Flags) (s : State) : (s.setFlags f).regs.l = s.regs.l := rfl
@[simp] theorem setFlags_regs_sp (f : Flags) (s : State) : (s.setFlags f).regs.sp = s.regs.sp := rfl
@[simp] theorem setFlags_regs_pc (f : Flags) (s : State) : (s.setFlags f).regs.pc = s.regs.pc := rfl
@[simp] theorem setFlags_regs_flags (f : Flags) (s : State) : (s.setFlags f).regs.flags = f := rfl

@[simp] theorem setPc_cfg (v : Word) (s : State) : (s.setPc v).cfg = s.cfg := rfl
@[simp] theorem setPc_ctl (v : Word) (s : State) : (s.setPc v).ctl = s.ctl := rfl
@[simp] theorem setPc_ie (v : Word) (s : State) : (s.setPc v).ie = s.ie := rfl
@[simp] theorem setPc_iflag (v : Word) (s : State) : (s.setPc v).iflag = s.iflag := rfl
@[simp] theorem setPc_timer (v : Word) (s : State) : (s.setPc v).timer = s.timer := rfl
@[simp] theorem setPc_ppu (v : Word) (s : State) : (s.setPc v).ppu = s.ppu := rfl
@[simp] theorem setPc_lcd (v : Word) (s : State) : (s.setPc v).lcd = s.lcd := rfl
@[simp] theorem setPc_dmaBusy (v : Word) (s : State) : (s.setPc v).dmaBusy = s.dmaBusy := rfl
@[simp] theorem setPc_joySel (v : Word) (s : State) : (s.setPc v).joySel = s.joySel := rfl
@[simp] theorem setPc_buttons (v : Word) (s : State) : (s.setPc v).buttons = s.buttons := rfl
@[simp] theorem setPc_sb (v : Word) (s : State) : (s.setPc v).sb = s.sb := rfl
@[simp] theorem setPc_sc (v : Word) (s : State) : (s.setPc v).sc = s.sc := rfl
@[simp] theorem setPc_mem (v : Word) (s : State) : (s.setPc v).mem = s.mem := rfl
@[simp] theorem setPc_mapperState (v : Word) (s : State) : (s.setPc v).mapperState = s.mapperState := rfl
@[simp] theorem setPc_fb (v : Word) (s : State) : (s.setPc v).fb = s.fb := rfl
@[simp] theorem setPc_frameCount (v : Word) (s : State) : (s.setPc v).frameCount = s.frameCount := rfl
@[simp] theorem setPc_inputs (v : Word) (s : State) : (s.setPc v).inputs = s.inputs := rfl
@[simp] theorem setPc_cycles (v : Word) (s : State) : (s.setPc v).cycles = s.cycles := rfl
@[simp] theorem setPc_regs_a (v : Word) (s : State) : (s.setPc v).regs.a = s.regs.a := rfl
@[simp] theorem setPc_regs_flags (v : Word) (s : State) : (s.setPc v).regs.flags = s.regs.flags := rfl
@[simp] theorem setPc_regs_b (v : Word) (s : State) : (s.setPc v).regs.b = s.regs.b := rfl
@[simp] theorem setPc_regs_c (v : Word) (s : State) : (s.setPc v).regs.c = s.regs.c := rfl
@[simp] theorem setPc_regs_d (v : Word) (s : State) : (s.setPc v).regs.d = s.regs.d := rfl
@[simp] theorem setPc_regs_e (v : Word) (s : State) : (s.setPc v).regs.e = s.regs.e := rfl
@[simp] theorem setPc_regs_h (v : Word) (s : State) : (s.setPc v).regs.h = s.regs.h := rfl
@[simp] theorem setPc_regs_l (v : Word) (s : State) : (s.setPc v).regs.l = s.regs.l := rfl
@[simp] theorem setPc_regs_sp (v : Word) (s : State) : (s.setPc v).regs.sp = s.regs.sp := rfl
@[simp] theorem setPc_regs_pc (v : Word) (s : State) : (s.setPc v).regs.pc = v := rfl
@[simp] theorem setSp_cfg (v : Word) (s : State) : (s.setSp v).cfg = s.cfg := rfl
@[simp] theorem setSp_ctl (v : Word) (s : State) : (s.setSp v).ctl = s.ctl := rfl
@[simp] theorem setSp_ie (v : Word) (s : State) : (s.setSp v).ie = s.ie := rfl
@[simp] theorem setSp_iflag (v : Word) (s : State) : (s.setSp v).iflag = s.iflag := rfl
@[simp] theorem setSp_timer (v : Word) (s : State) : (s.setSp v).timer = s.timer := rfl
@[simp] theorem setSp_ppu (v : Word) (s : State) : (s.setSp v).ppu = s.ppu := rfl
@[simp] theorem setSp_lcd (v : Word) (s : State) : (s.setSp v).lcd = s.lcd := rfl
@[simp] theorem setSp_dmaBusy (v : Word) (s : State) : (s.setSp v).dmaBusy = s.dmaBusy := rfl
@[simp] theorem setSp_joySel (v : Word) (s : State) : (s.setSp v).joySel = s.joySel := rfl
@[simp] theorem setSp_buttons (v : Word) (s : State) : (s.setSp v).buttons = s.buttons := rfl
@[simp] theorem setSp_sb (v : Word) (s : State) : (s.setSp v).sb = s.sb := rfl
@[simp] theorem setSp_sc (v : Word) (s : State) : (s.setSp v).sc = s.sc := rfl
@[simp] theorem setSp_mem (v : Word) (s : State) : (s.setSp v).mem = s.mem := rfl
@[simp] theorem setSp_mapperState (v : Word) (s : State) : (s.setSp v).mapperState = s.mapperState := rfl
@[simp] theorem setSp_fb (v : Word) (s : State) : (s.setSp v).fb = s.fb := rfl
@[simp] theorem setSp_frameCount (v : Word) (s : State) : (s.setSp v).frameCount = s.frameCount := rfl
@[simp] theorem setSp_inputs (v : Word) (s : State) : (s.setSp v).inputs = s.inputs := rfl
@[simp] theorem setSp_cycles (v : Word) (s : State) : (s.setSp v).cycles = s.cycles := rfl
@[simp] theorem setSp_regs_a (v : Word) (s : State) : (s.setSp v).regs.a = s.regs.a := rfl
@[simp] theorem setSp_regs_flags (v : Word) (s : State) : (s.setSp v).regs.flags = s.regs.flags := rfl
@[simp] theorem setSp_regs_b (v : Word) (s : State) : (s.setSp v).regs.b = s.regs.b := rfl
@[simp] theorem setSp_regs_c (v : Word) (s : State) : (s.setSp v).regs.c = s.regs.c := rfl
@[simp] theorem setSp_regs_d (v : Word) (s : State) : (s.setSp v).regs.d = s.regs.d := rfl
@[simp] theorem setSp_regs_e (v : Word) (s : State) : (s.setSp v).regs.e = s.regs.e := rfl
@[simp] theorem setSp_regs_h (v : Word) (s : State) : (s.setSp v).regs.h = s.regs.h := rfl
@[simp] theorem setSp_regs_l (v : Word) (s : State) : (s.setSp v).regs.l = s.regs.l := rfl
@[simp] theorem setSp_regs_pc (v : Word) (s : State) : (s.setSp v).regs.pc = s.regs.pc := rfl
@[simp] theorem setSp_regs_sp (v : Word) (s : State) : (s.setSp v).regs.sp = v := rfl
@[simp] theorem setPc_self (s : State) : s.setPc s.regs.pc = s := rfl

@[simp] theorem setIme_cfg (v : Bool) (s : State) : (s.setIme v).cfg = s.cfg := rfl
@[simp] theorem setIme_regs (v : Bool) (s : State) : (s.setIme v).regs = s.regs := rfl
@[simp] theorem setIme_ie (v : Bool) (s : State) : (s.setIme v).ie = s.ie := rfl
@[simp] theorem setIme_iflag (v : Bool) (s : State) : (s.setIme v).iflag = s.iflag := rfl
@[simp] theorem setIme_timer (v : Bool) (s : State) : (s.setIme v).timer = s.timer := rfl
@[simp] theorem setIme_ppu (v : Bool) (s : State) : (s.setIme v).ppu = s.ppu := rfl
@[simp] theorem setIme_lcd (v : Bool) (s : State) : (s.setIme v).lcd = s.lcd := rfl
@[simp] theorem setIme_dmaBusy (v : Bool) (s : State) : (s.setIme v).dmaBusy = s.dmaBusy := rfl
@[simp] theorem setIme_joySel (v : Bool) (s : State) : (s.setIme v).joySel = s.joySel := rfl
@[simp] theorem setIme_buttons (v : Bool) (s : State) : (s.setIme v).buttons = s.buttons := rfl
@[simp] theorem setIme_sb (v : Bool) (s : State) : (s.setIme v).sb = s.sb := rfl
@[simp] theorem setIme_sc (v : Bool) (s : State) : (s.setIme v).sc = s.sc := rfl
@[simp] theorem setIme_mem (v : Bool) (s : State) : (s.setIme v).mem = s.mem := rfl
@[simp] theorem setIme_mapperState (v : Bool) (s : State) : (s.setIme v).mapperState = s.mapperState := rfl
@[simp] theorem setIme_fb (v : Bool) (s : State) : (s.setIme v).fb = s.fb := rfl
@[simp] theorem setIme_frameCount (v : Bool) (s : State) : (s.setIme v).frameCount = s.frameCount := rfl
@[simp] theorem setIme_inputs (v : Bool) (s : State) : (s.setIme v).inputs = s.inputs := rfl
@[simp] theorem setIme_cycles (v : Bool) (s : State) : (s.setIme v).cycles = s.cycles := rfl
@[simp] theorem setIme_ctl (v : Bool) (s : State) : (s.setIme v).ctl = { s.ctl with ime := v } := rfl

@[simp] theorem setPair_cfg (p : Reg16) (v : Word) (s : State) : (s.setPair p v).cfg = s.cfg := by cases p <;> rfl
@[simp] theorem setPair_ctl (p : Reg16) (v : Word) (s : State) : (s.setPair p v).ctl = s.ctl := by cases p <;> rfl
@[simp] theorem setPair_ie (p : Reg16) (v : Word) (s : State) : (s.setPair p v).ie = s.ie := by cases p <;> rfl
@[simp] theorem setPair_iflag (p : Reg16) (v : Word) (s : State) : (s.setPair p v).iflag = s.iflag := by cases p <;> rfl
@[simp] theorem setPair_timer (p : Reg16) (v : Word) (s : State) : (s.setPair p v).timer = s.timer := by cases p <;> rfl
@[simp] theorem setPair_ppu (p : Reg16) (v : Word) (s : State) : (s.setPair p v).ppu = s.ppu := by cases p <;> rfl
@[simp] theorem setPair_lcd (p : Reg16) (v : Word) (s : State) : (s.setPair p v).lcd = s.lcd := by cases p <;> rfl
@[simp] theorem setPair_dmaBusy (p : Reg16) (v : Word) (s : State) : (s.setPair p v).dmaBusy = s.dmaBusy := by cases p <;> rfl
@[simp] theorem setPair_joySel (p : Reg16) (v : Word) (s : State) : (s.setPair p v).joySel = s.joySel := by cases p <;> rfl
@[simp] theorem setPair_buttons (p : Reg16) (v : Word) (s : State) : (s.setPair p v).buttons = s.buttons := by cases p <;> rfl
@[simp] theorem setPair_sb (p : Reg16) (v : Word) (s : State) : (s.setPair p v).sb = s.sb := by cases p <;> rfl
@[simp] theorem setPair_sc (p : Reg16) (v : Word) (s : State) : (s.setPair p v).sc = s.sc := by cases p <;> rfl
@[simp] theorem setPair_mem (p : Reg16) (v : Word) (s : State) : (s.setPair p v).mem = s.mem := by cases p <;> rfl
@[simp] theorem setPair_mapperState (p : Reg16) (v : Word) (s : State) : (s.setPair p v).mapperState = s.mapperState := by cases p <;> rfl
@[simp] theorem setPair_fb (p : Reg16) (v : Word) (s : State) : (s.setPair p v).fb = s.fb := by cases p <;> rfl
@[simp] theorem setPair_frameCount (p : Reg16) (v : Word) (s : State) : (s.setPair p v).frameCount = s.frameCount := by cases p <;> rfl
@[simp] theorem setPair_inputs (p : Reg16) (v : Word) (s : State) : (s.setPair p v).inputs = s.inputs := by cases p <;> rfl
@[simp] theorem setPair_cycles (p : Reg16) (v : Word) (s : State) : (s.setPair p v).cycles = s.cycles := by cases p <;> rfl
@[simp] theorem setPair_regs_a (p : Reg16) (v : Word) (s : State) : (s.setPair p v).regs.a = s.regs.a := by cases p <;> rfl
@[simp] theorem setPair_regs_flags (p : Reg16) (v : Word) (s : State) : (s.setPair p v).regs.flags = s.regs.flags := by cases p <;> rfl
@[simp] theorem setPair_regs_pc (p : Reg16) (v : Word) (s : State) : (s.setPair p v).regs.pc = s.regs.pc := by cases p <;> rfl
theorem wordOf_toNat (h l : Byte) : (wordOf h l).toNat = h.toNat * 256 + l.toNat := by
  have hl : l.toNat < 2 ^ 8 := l.isLt
  show (h ++ l : BitVec (8+8)).toNat = _
  rw [BitVec.toNat_append, ← Nat.shiftLeft_add_eq_or_of_lt hl, Nat.shiftLeft_eq]
theorem hiByte_toNat (w : Word) : (hiByte w).toNat = w.toNat / 256 := by
  have := w.isLt
  simp [hiByte, Nat.shiftRight_eq_div_pow]; omega
theorem loByte_toNat (w : Word) : (loByte w).toNat = w.toNat % 256 := by
  simp [loByte]
theorem wordOf_hi_lo (v : Word) : wordOf (hiByte v) (loByte v) = v := by
  apply BitVec.eq_of_toNat_eq
  rw [wordOf_toNat, hiByte_toNat, loByte_toNat]; omega
@[simp] theorem loByte_wordOf (h l : Byte) : loByte (wordOf h l) = l := by
  apply BitVec.eq_of_toNat_eq
  have := l.isLt
  rw [loByte_toNat, wordOf_toNat]; omega
@[simp] theorem hiByte_wordOf (h l : Byte) : hiByte (wordOf h l) = h := by
  apply BitVec.eq_of_toNat_eq
  have := l.isLt
  rw [hiByte_toNat, wordOf_toNat]; omega
@[simp] theorem getPair_setPair_self (p : Reg16) (v : Word) (s : State) : (s.setPair p v).getPair p = v := by
  cases p <;> simp [State.getPair, State.setPair, State.setSp, State.hl, wordOf_hi_lo]
theorem getPair_setPair_of_ne {p q : Reg16} (h : q ≠ p) (v : Word) (s : State) :
    (s.setPair p v).getPair q = s.getPair q := by
  cases p <;> cases q <;> first | rfl | exact absurd rfl h
@[simp] theorem setPair_hl_eq (v : Word) (s : State) :
    s.setPair .hl v = { s with regs := { s.regs with h := hiByte v, l := loByte v } } := rfl
@[simp] theorem Flags.ofByte_toByte (f : Flags) : Flags.ofByte f.toByte = f := by
  obtain ⟨z, n, h, c⟩ := f
  cases z <;> cases n <;> cases h <;> cases c <;> rfl
theorem Flags.toByte_ofByte (v : Byte) : (Flags.ofByte v).toByte = v &&& 0xF0 := by
  revert v; decide

@[simp] theorem setStackPair_cfg (p : StackReg) (v : Word) (s : State) : (s.setStackPair p v).cfg = s.cfg := by cases p <;> rfl
@[simp] theorem setStackPair_ctl (p : StackReg) (v : Word) (s : State) : (s.setStackPair p v).ctl = s.ctl := by cases p <;> rfl
@[simp] theorem setStackPair_ie (p : StackReg) (v : Word) (s : State) : (s.setStackPair p v).ie = s.ie := by cases p <;> rfl
@[simp] theorem setStackPair_iflag (p : StackReg) (v : Word) (s : State) : (s.setStackPair p v).iflag = s.iflag := by cases p <;> rfl
@[simp] theorem setStackPair_timer (p : StackReg) (v : Word) (s : State) : (s.setStackPair p v).timer = s.timer := by cases p <;> rfl
@[simp] theorem setStackPair_ppu (p : StackReg) (v : Word) (s : State) : (s.setStackPair p v).ppu = s.ppu := by cases p <;> rfl
@[simp] theorem setStackPair_lcd (p : StackReg) (v : Word) (s : State) : (s.setStackPair p v).lcd = s.lcd := by cases p <;> rfl
@[simp] theorem setStackPair_dmaBusy (p : StackReg) (v : Word) (s : State) : (s.setStackPair p v).dmaBusy = s.dmaBusy := by cases p <;> rfl
@[simp] theorem setStackPair_joySel (p : StackReg) (v : Word) (s : State) : (s.setStackPair p v).joySel = s.joySel := by cases p <;> rfl
@[simp] theorem setStackPair_buttons (p : StackReg) (v : Word) (s : State) : (s.setStackPair p v).buttons = s.buttons := by cases p <;> rfl
@[simp] theorem setStackPair_sb (p : StackReg) (v : Word) (s : State) : (s.setStackPair p v).sb = s.sb := by cases p <;> rfl
@[simp] theorem setStackPair_sc (p : StackReg) (v : Word) (s : State) : (s.setStackPair p v).sc = s.sc := by cases p <;> rfl
@[simp] theorem setStackPair_mem (p : StackReg) (v : Word) (s : State) : (s.setStackPair p v).mem = s.mem := by cases p <;> rfl
@[simp] theorem setStackPair_mapperState (p : StackReg) (v : Word) (s : State) : (s.setStackPair p v).mapperState = s.mapperState := by cases p <;> rfl
@[simp] theorem setStackPair_fb (p : StackReg) (v : Word) (s : State) : (s.setStackPair p v).fb = s.fb := by cases p <;> rfl
@[simp] theorem setStackPair_frameCount (p : StackReg) (v : Word) (s : State) : (s.setStackPair p v).frameCount = s.frameCount := by cases p <;> rfl
@[simp] theorem setStackPair_inputs (p : StackReg) (v : Word) (s : State) : (s.setStackPair p v).inputs = s.inputs := by cases p <;> rfl
@[simp] theorem setStackPair_cycles (p : StackReg) (v : Word) (s : State) : (s.setStackPair p v).cycles = s.cycles := by cases p <;> rfl
@[simp] theorem setStackPair_regs_sp (p : StackReg) (v : Word) (s : State) : (s.setStackPair p v).regs.sp = s.regs.sp := by cases p <;> rfl
@[simp] theorem setStackPair_regs_pc (p : StackReg) (v : Word) (s : State) : (s.setStackPair p v).regs.pc = s.regs.pc := by cases p <;> rfl
@[simp] theorem store_cfg (a : Nat) (v : Byte) (s : State) : (s.store a v).cfg = s.cfg := rfl
@[simp] theorem store_regs (a : Nat) (v : Byte) (s : State) : (s.store a v).regs = s.regs := rfl
@[simp] theorem store_ctl (a : Nat) (v : Byte) (s : State) : (s.store a v).ctl = s.ctl := rfl
@[simp] theorem store_ie (a : Nat) (v : Byte) (s : State) : (s.store a v).ie = s.ie := rfl
@[simp] theorem store_iflag (a : Nat) (v : Byte) (s : State) : (s.store a v).iflag = s.iflag := rfl
@[simp] theorem store_timer (a : Nat) (v : Byte) (s : State) : (s.store a v).timer = s.timer := rfl
@[simp] theorem store_ppu (a : Nat) (v : Byte) (s : State) : (s.store a v).ppu = s.ppu := rfl
@[simp] theorem store_lcd (a : Nat) (v : Byte) (s : State) : (s.store a v).lcd = s.lcd := rfl
@[simp] theorem store_dmaBusy (a : Nat) (v : Byte) (s : State) : (s.store a v).dmaBusy = s.dmaBusy := rfl
@[simp] theorem store_joySel (a : Nat) (v : Byte) (s : State) : (s.store a v).joySel = s.joySel := rfl
@[simp] theorem store_buttons (a : Nat) (v : Byte) (s : State) : (s.store a v).buttons = s.buttons := rfl
@[simp] theorem store_sb (a : Nat) (v : Byte) (s : State) : (s.store a v).sb = s.sb := rfl
@[simp] theorem store_sc (a : Nat) (v : Byte) (s : State) : (s.store a v).sc = s.sc := rfl
@[simp] theorem store_mapperState (a : Nat) (v : Byte) (s : State) : (s.store a v).mapperState = s.mapperState := rfl
@[simp] theorem store_fb (a : Nat) (v : Byte) (s : State) : (s.store a v).fb = s.fb := rfl
@[simp] theorem store_frameCount (a : Nat) (v : Byte) (s : State) : (s.store a v).frameCount = s.frameCount := rfl
@[simp] theorem store_inputs (a : Nat) (v : Byte) (s : State) : (s.store a v).inputs = s.inputs := rfl
@[simp] theorem store_cycles (a : Nat) (v : Byte) (s : State) : (s.store a v).cycles = s.cycles := rfl
@[simp] theorem store_mem (a : Nat) (v : Byte) (s : State) : (s.store a v).mem = s.mem.write a v := rfl

@[simp] theorem setLy_cfg (v : Byte) (s : State) : (s.setLy v).cfg = s.cfg := rfl
@[simp] theorem setLy_regs (v : Byte) (s : State) : (s.setLy v).regs = s.regs := rfl
@[simp] theorem setLy_ctl (v : Byte) (s : State) : (s.setLy v).ctl = s.ctl := rfl
@[simp] theorem setLy_ie (v : Byte) (s : State) : (s.setLy v).ie = s.ie := rfl
@[simp] theorem setLy_iflag (v : Byte) (s : State) : (s.setLy v).iflag = s.iflag := rfl
@[simp] theorem setLy_timer (v : Byte) (s : State) : (s.setLy v).timer = s.timer := rfl
@[simp] theorem setLy_ppu (v : Byte) (s : State) : (s.setLy v).ppu = s.ppu := rfl
@[simp] theorem setLy_dmaBusy (v : Byte) (s : State) : (s.setLy v).dmaBusy = s.dmaBusy := rfl
@[simp] theorem setLy_joySel (v : Byte) (s : State) : (s.setLy v).joySel = s.joySel := rfl
@[simp] theorem setLy_buttons (v : Byte) (s : State) : (s.setLy v).buttons = s.buttons := rfl
@[simp] theorem setLy_sb (v : Byte) (s : State) : (s.setLy v).sb = s.sb := rfl
@[simp] theorem setLy_sc (v : Byte) (s : State) : (s.setLy v).sc = s.sc := rfl
@[simp] theorem setLy_mem (v : Byte) (s : State) : (s.setLy v).mem = s.mem := rfl
@[simp] theorem setLy_mapperState (v : Byte) (s : State) : (s.setLy v).mapperState = s.mapperState := rfl
@[simp] theorem setLy_fb (v : Byte) (s : State) : (s.setLy v).fb = s.fb := rfl
@[simp] theorem setLy_frameCount (v : Byte) (s : State) : (s.setLy v).frameCount = s.frameCount := rfl
@[simp] theorem setLy_inputs (v : Byte) (s : State) : (s.setLy v).inputs = s.inputs := rfl
@[simp] theorem setLy_cycles (v : Byte) (s : State) : (s.setLy v).cycles = s.cycles := rfl
@[simp] theorem setLy_lcd (v : Byte) (s : State) : (s.setLy v).lcd = { s.lcd with ly := v } := rfl
@[simp] theorem setWindowLine_cfg (v : Byte) (s : State) : (s.setWindowLine v).cfg = s.cfg := rfl
@[simp] theorem setWindowLine_regs (v : Byte) (s : State) : (s.setWindowLine v).regs = s.regs := rfl
@[simp] theorem setWindowLine_ctl (v : Byte) (s : State) : (s.setWindowLine v).ctl = s.ctl := rfl
@[simp] theorem setWindowLine_ie (v : Byte) (s : State) : (s.setWindowLine v).ie = s.ie := rfl
@[simp] theorem setWindowLine_iflag (v : Byte) (s : State) : (s.setWindowLine v).iflag = s.iflag := rfl
@[simp] theorem setWindowLine_timer (v : Byte) (s : State) : (s.setWindowLine v).timer = s.timer := rfl
@[simp] theorem setWindowLine_lcd (v : Byte) (s : State) : (s.setWindowLine v).lcd = s.lcd := rfl
@[simp] theorem setWindowLine_dmaBusy (v : Byte) (s : State) : (s.setWindowLine v).dmaBusy = s.dmaBusy := rfl
@[simp] theorem setWindowLine_joySel (v : Byte) (s : State) : (s.setWindowLine v).joySel = s.joySel := rfl
@[simp] theorem setWindowLine_buttons (v : Byte) (s : State) : (s.setWindowLine v).buttons = s.buttons := rfl
@[simp] theorem setWindowLine_sb (v : Byte) (s : State) : (s.setWindowLine v).sb = s.sb := rfl
@[simp] theorem setWindowLine_sc (v : Byte) (s : State) : (s.setWindowLine v).sc = s.sc := rfl
@[simp] theorem setWindowLine_mem (v : Byte) (s : State) : (s.setWindowLine v).mem = s.mem := rfl
@[simp] theorem setWindowLine_mapperState (v : Byte) (s : State) : (s.setWindowLine v).mapperState = s.mapperState := rfl
@[simp] theorem setWindowLine_fb (v : Byte) (s : State) : (s.setWindowLine v).fb = s.fb := rfl
@[simp] theorem setWindowLine_frameCount (v : Byte) (s : State) : (s.setWindowLine v).frameCount = s.frameCount := rfl
@[simp] theorem setWindowLine_inputs (v : Byte) (s : State) : (s.setWindowLine v).inputs = s.inputs := rfl
@[simp] theorem setWindowLine_cycles (v : Byte) (s : State) : (s.setWindowLine v).cycles = s.cycles := rfl
@[simp] theorem setWindowLine_ppu (v : Byte) (s : State) : (s.setWindowLine v).ppu = { s.ppu with windowLine := v } := rfl

@[simp] theorem requestInterrupt_cfg (id : Fin 5) (s : State) : (s.requestInterrupt id).cfg = s.cfg := rfl
@[simp] theorem requestInterrupt_regs (id : Fin 5) (s : State) : (s.requestInterrupt id).regs = s.regs := rfl
@[simp] theorem requestInterrupt_ctl (id : Fin 5) (s : State) : (s.requestInterrupt id).ctl = s.ctl := rfl
@[simp] theorem requestInterrupt_ie (id : Fin 5) (s : State) : (s.requestInterrupt id).ie = s.ie := rfl
@[simp] theorem requestInterrupt_timer (id : Fin 5) (s : State) : (s.requestInterrupt id).timer = s.timer := rfl
@[simp] theorem requestInterrupt_ppu (id : Fin 5) (s : State) : (s.requestInterrupt id).ppu = s.ppu := rfl
@[simp] theorem requestInterrupt_lcd (id : Fin 5) (s : State) : (s.requestInterrupt id).lcd = s.lcd := rfl
@[simp] theorem requestInterrupt_dmaBusy (id : Fin 5) (s : State) : (s.requestInterrupt id).dmaBusy = s.dmaBusy := rfl
@[simp] theorem requestInterrupt_joySel (id : Fin 5) (s : State) : (s.requestInterrupt id).joySel = s.joySel := rfl
@[simp] theorem requestInterrupt_buttons (id : Fin 5) (s : State) : (s.requestInterrupt id).buttons = s.buttons := rfl
@[simp] theorem requestInterrupt_sb (id : Fin 5) (s : State) : (s.requestInterrupt id).sb = s.sb := rfl
@[simp] theorem requestInterrupt_sc (id : Fin 5) (s : State) : (s.requestInterrupt id).sc = s.sc := rfl
@[simp] theorem requestInterrupt_mem (id : Fin 5) (s : State) : (s.requestInterrupt id).mem = s.mem := rfl
@[simp] theorem requestInterrupt_mapperState (id : Fin 5) (s : State) : (s.requestInterrupt id).mapperState = s.mapperState := rfl
@[simp] theorem requestInterrupt_fb (id : Fin 5) (s : State) : (s.requestInterrupt id).fb = s.fb := rfl
@[simp] theorem requestInterrupt_frameCount (id : Fin 5) (s : State) : (s.requestInterrupt id).frameCount = s.frameCount := rfl
@[simp] theorem requestInterrupt_inputs (id : Fin 5) (s : State) : (s.requestInterrupt id).inputs = s.inputs := rfl
@[simp] theorem requestInterrupt_cycles (id : Fin 5) (s : State) : (s.requestInterrupt id).cycles = s.cycles := rfl
@[simp] theorem requestInterrupt_iflag (id : Fin 5) (s : State) : (s.requestInterrupt id).iflag = s.iflag ||| (1#5 <<< id.val) := rfl
@[simp] theorem requestWhen_cfg (b : Bool) (id : Fin 5) (s : State) : (s.requestWhen b id).cfg = s.cfg := by cases b <;> rfl
@[simp] theorem requestWhen_regs (b : Bool) (id : Fin 5) (s : State) : (s.requestWhen b id).regs = s.regs := by cases b <;> rfl
@[simp] theorem requestWhen_ctl (b : Bool) (id : Fin 5) (s : State) : (s.requestWhen b id).ctl = s.ctl := by cases b <;> rfl
@[simp] theorem requestWhen_ie (b : Bool) (id : Fin 5) (s : State) : (s.requestWhen b id).ie = s.ie := by cases b <;> rfl
@[simp] theorem requestWhen_timer (b : Bool) (id : Fin 5) (s : State) : (s.requestWhen b id).timer = s.timer := by cases b <;> rfl
@[simp] theorem requestWhen_ppu (b : Bool) (id : Fin 5) (s : State) : (s.requestWhen b id).ppu = s.ppu := by cases b <;> rfl
@[simp] theorem requestWhen_lcd (b : Bool) (id : Fin 5) (s : State) : (s.requestWhen b id).lcd = s.lcd := by cases b <;> rfl
@[simp] theorem requestWhen_dmaBusy (b : Bool) (id : Fin 5) (s : State) : (s.requestWhen b id).dmaBusy = s.dmaBusy := by cases b <;> rfl
@[simp] theorem requestWhen_joySel (b : Bool) (id : Fin 5) (s : State) : (s.requestWhen b id).joySel = s.joySel := by cases b <;> rfl
@[simp] theorem requestWhen_buttons (b : Bool) (id : Fin 5) (s : State) : (s.requestWhen b id).buttons = s.buttons := by cases b <;> rfl
@[simp] theorem requestWhen_sb (b : Bool) (id : Fin 5) (s : State) : (s.requestWhen b id).sb = s.sb := by cases b <;> rfl
@[simp] theorem requestWhen_sc (b : Bool) (id : Fin 5) (s : State) : (s.requestWhen b id).sc = s.sc := by cases b <;> rfl
@[simp] theorem requestWhen_mem (b : Bool) (id : Fin 5) (s : State) : (s.requestWhen b id).mem = s.mem := by cases b <;> rfl
@[simp] theorem requestWhen_mapperState (b : Bool) (id : Fin 5) (s : State) : (s.requestWhen b id).mapperState = s.mapperState := by cases b <;> rfl
@[simp] theorem requestWhen_fb (b : Bool) (id : Fin 5) (s : State) : (s.requestWhen b id).fb = s.fb := by cases b <;> rfl
@[simp] theorem requestWhen_frameCount (b : Bool) (id : Fin 5) (s : State) : (s.requestWhen b id).frameCount = s.frameCount := by cases b <;> rfl
@[simp] theorem requestWhen_inputs (b : Bool) (id : Fin 5) (s : State) : (s.requestWhen b id).inputs = s.inputs := by cases b <;> rfl
@[simp] theorem requestWhen_cycles (b : Bool) (id : Fin 5) (s : State) : (s.requestWhen b id).cycles = s.cycles := by cases b <;> rfl
theorem requestWhen_eq (b : Bool) (id : Fin 5) (s : State) :
    s.requestWhen b id = { s with iflag := if b then s.iflag ||| (1#5 <<< id.val) else s.iflag } := by cases b <;> rfl
@[simp] theorem clearInterrupt_cfg (b : Fin 5) (s : State) : (s.clearInterrupt b).cfg = s.cfg := rfl
@[simp] theorem clearInterrupt_regs (b : Fin 5) (s : State) : (s.clearInterrupt b).regs = s.regs := rfl
@[simp] theorem clearInterrupt_ctl (b : Fin 5) (s : State) : (s.clearInterrupt b).ctl = s.ctl := rfl
@[simp] theorem clearInterrupt_ie (b : Fin 5) (s : State) : (s.clearInterrupt b).ie = s.ie := rfl
@[simp] theorem clearInterrupt_timer (b : Fin 5) (s : State) : (s.clearInterrupt b).timer = s.timer := rfl
@[simp] theorem clearInterrupt_ppu (b : Fin 5) (s : State) : (s.clearInterrupt b).ppu = s.ppu := rfl
@[simp] theorem clearInterrupt_lcd (b : Fin 5) (s : State) : (s.clearInterrupt b).lcd = s.lcd := rfl
@[simp] theorem clearInterrupt_dmaBusy (b : Fin 5) (s : State) : (s.clearInterrupt b).dmaBusy = s.dmaBusy := rfl
@[simp] theorem clearInterrupt_joySel (b : Fin 5) (s : State) : (s.clearInterrupt b).joySel = s.joySel := rfl
@[simp] theorem clearInterrupt_buttons (b : Fin 5) (s : State) : (s.clearInterrupt b).buttons = s.buttons := rfl
@[simp] theorem clearInterrupt_sb (b : Fin 5) (s : State) : (s.clearInterrupt b).sb = s.sb := rfl
@[simp] theorem clearInterrupt_sc (b : Fin 5) (s : State) : (s.clearInterrupt b).sc = s.sc := rfl
@[simp] theorem clearInterrupt_mem (b : Fin 5) (s : State) : (s.clearInterrupt b).mem = s.mem := rfl
@[simp] theorem clearInterrupt_mapperState (b : Fin 5) (s : State) : (s.clearInterrupt b).mapperState = s.mapperState := rfl
@[simp] theorem clearInterrupt_fb (b : Fin 5) (s : State) : (s.clearInterrupt b).fb = s.fb := rfl
@[simp] theorem clearInterrupt_frameCount (b : Fin 5) (s : State) : (s.clearInterrupt b).frameCount = s.frameCount := rfl
@[simp] theorem clearInterrupt_inputs (b : Fin 5) (s : State) : (s.clearInterrupt b).inputs = s.inputs := rfl
@[simp] theorem clearInterrupt_cycles (b : Fin 5) (s : State) : (s.clearInterrupt b).cycles = s.cycles := rfl
@[simp] theorem clearInterrupt_iflag (b : Fin 5) (s : State) : (s.clearInterrupt b).iflag = s.iflag &&& ~~~(1#5 <<< b.val) := rfl

@[simp] theorem promoteEi_cfg (s : State) : (s.promoteEi).cfg = s.cfg := by unfold State.promoteEi; split <;> rfl
@[simp] theorem promoteEi_regs (s : State) : (s.promoteEi).regs = s.regs := by unfold State.promoteEi; split <;> rfl
@[simp] theorem promoteEi_ie (s : State) : (s.promoteEi).ie = s.ie := by unfold State.promoteEi; split <;> rfl
@[simp] theorem promoteEi_iflag (s : State) : (s.promoteEi).iflag = s.iflag := by unfold State.promoteEi; split <;> rfl
@[simp] theorem promoteEi_timer (s : State) : (s.promoteEi).timer = s.timer := by unfold State.promoteEi; split <;> rfl
@[simp] theorem promoteEi_ppu (s : State) : (s.promoteEi).ppu = s.ppu := by unfold State.promoteEi; split <;> rfl
@[simp] theorem promoteEi_lcd (s : State) : (s.promoteEi).lcd = s.lcd := by unfold State.promoteEi; split <;> rfl
@[simp] theorem promoteEi_dmaBusy (s : State) : (s.promoteEi).dmaBusy = s.dmaBusy := by unfold State.promoteEi; split <;> rfl
@[simp] theorem promoteEi_joySel (s : State) : (s.promoteEi).joySel = s.joySel := by unfold State.promoteEi; split <;> rfl
@[simp] theorem promoteEi_buttons (s : State) : (s.promoteEi).buttons = s.buttons := by unfold State.promoteEi; split <;> rfl
@[simp] theorem promoteEi_sb (s : State) : (s.promoteEi).sb = s.sb := by unfold State.promoteEi; split <;> rfl
@[simp] theorem promoteEi_sc (s : State) : (s.promoteEi).sc = s.sc := by unfold State.promoteEi; split <;> rfl
@[simp] theorem promoteEi_mem (s : State) : (s.promoteEi).mem = s.mem := by unfold State.promoteEi; split <;> rfl
@[simp] theorem promoteEi_mapperState (s : State) : (s.promoteEi).mapperState = s.mapperState := by unfold State.promoteEi; split <;> rfl
@[simp] theorem promoteEi_fb (s : State) : (s.promoteEi).fb = s.fb := by unfold State.promoteEi; split <;> rfl
@[simp] theorem promoteEi_frameCount (s : State) : (s.promoteEi).frameCount = s.frameCount := by unfold State.promoteEi; split <;> rfl
@[simp] theorem promoteEi_inputs (s : State) : (s.promoteEi).inputs = s.inputs := by unfold State.promoteEi; split <;> rfl
@[simp] theorem promoteEi_cycles (s : State) : (s.promoteEi).cycles = s.cycles := by unfold State.promoteEi; split <;> rfl
theorem promoteEi_ctl (s : State) :
    s.promoteEi.ctl = { s.ctl with ime := s.ctl.ime || s.ctl.eiPending, eiPending := false } := by
  unfold State.promoteEi
  split
  · next h => simp [h]
  · next h =>
    have hf : s.ctl.eiPending = false := by simpa using h
    rw [hf, Bool.or_false]
    exact (congrArg (fun e => ({ s.ctl with eiPending := e } : CpuState)) hf).symm ▸ rfl

end Sys2Proof.Machine
end

