-- ==== Sys2Proof/Laws/Bus.lean ====
section
/-! SUPPORT. What a bus write can do, said once: the fields it never touches, the shape of the OAM copy, which memory
cells it can reach, and that it keeps memory canonical and every PPU invariant. -/

namespace Sys2Proof.Machine

/-- The OAM copy changes memory only, and there only the OAM bytes it copies to. -/
theorem foldl_dmaCopyByte (v : Byte) (l : List Nat) (s : State) :
    ∃ m : Memory, l.foldl (State.dmaCopyByte v) s = { s with mem := m } ∧
      (∀ b, (∀ i ∈ l, 0xFE00 + i ≠ b) → m.read b = s.mem.read b) ∧
      (Memory.wf s.mem → Memory.wf m) ∧ (∀ c ∈ m, c ∈ s.mem ∨ ∃ i ∈ l, c.1 = 0xFE00 + i) := by
  induction l generalizing s with
  | nil => exact ⟨s.mem, rfl, fun _ _ => rfl, id, fun c hc => .inl hc⟩
  | cons i l ih =>
    obtain ⟨m, hm, hr, hw, hc⟩ := ih (State.dmaCopyByte v s i)
    refine ⟨m, ?_, fun b hb => ?_, fun h => hw (Memory.wf_write h _ _), fun c hcm => ?_⟩
    · rw [List.foldl_cons, hm]; rfl
    · rw [hr b fun j hj => hb j (List.mem_cons_of_mem _ hj)]
      exact Memory.read_write_of_ne _ (hb i (by simp)) _
    · rcases hc c hcm with h | ⟨j, hj, h⟩
      · rcases Memory.mem_write h with h | h
        · exact .inr ⟨i, by simp, h⟩
        · exact .inl h
      · exact .inr ⟨j, by simp [hj], h⟩

/-- The DMA write: the register, the busy window and OAM; nothing else. -/
theorem startDma_cases (v : Byte) (s : State) :
    ∃ m : Memory, s.startDma v = { s with mem := m, lcd := { s.lcd with dma := v }, dmaBusy := s.cfg.dmaBusyCycles } ∧
      (∀ b, (b < 0xFE00 ∨ 0xFEA0 ≤ b) → m.read b = s.mem.read b) ∧
      (Memory.wf s.mem → Memory.wf m) ∧ (∀ c ∈ m, c ∈ s.mem ∨ (0xFE00 ≤ c.1 ∧ c.1 < 0xFEA0)) := by
  obtain ⟨m, hm, hr, hw, hc⟩ := foldl_dmaCopyByte v (List.range 160) { s with lcd := { s.lcd with dma := v } }
  refine ⟨m, ?_, fun b hb => hr b fun i hi => ?_, hw, fun c h => ?_⟩
  · unfold State.startDma
    rw [hm]
  · have := List.mem_range.mp hi
    omega
  · rcases hc c h with h | ⟨i, hi, h⟩
    · exact .inl h
    · have := List.mem_range.mp hi
      exact .inr (by omega)

/-- Re-evaluating the coincidence writes STAT bit 2 and `IF` bit 1 only. -/
theorem evalCoincidence_eq (s : State) :
    s.evalCoincidence = { s with
      lcd := { s.lcd with stat := statWithCoincidence s.lcd.stat (decide (s.lcd.ly = s.lcd.lyc)) }
      iflag := if decide (s.lcd.ly = s.lcd.lyc) && !s.lcd.stat.getLsbD 2 && s.lcd.stat.getLsbD 6 then s.iflag ||| 2#5 else s.iflag } := by
  unfold State.evalCoincidence
  rw [requestWhen_eq]
  rfl

/-- A mode entry writes the mode, its countdown, STAT bits 2..0 and `IF` bits 0 and 1 only. -/
theorem enterMode_cases (m : Mode) (d : Nat) (s : State) :
    ∃ f : BitVec 5, s.enterMode m d = { s with
      ppu := { s.ppu with mode := m, cyclesRemaining := d }
      lcd := { s.lcd with stat := statWithCoincidence (statWithMode s.lcd.stat m) (decide (s.lcd.ly = s.lcd.lyc)) }
      iflag := f } := by
  unfold State.enterMode
  rw [evalCoincidence_eq]
  simp only [requestWhen_eq]
  exact ⟨_, rfl⟩

/-- The three outcomes of a write to LCDC. -/
theorem writeLcdc_cases (v : Byte) (s : State) :
    (s.writeLcdc v = { s with lcd := { s.lcd with lcdc := v } } ∧ s.lcdOn = v.getLsbD 7) ∨
    (s.writeLcdc v = State.lcdDisable { s with lcd := { s.lcd with lcdc := v } } ∧ s.lcdOn = true ∧ v.getLsbD 7 = false) ∨
    (s.writeLcdc v = State.lcdEnable { s with lcd := { s.lcd with lcdc := v } } ∧ s.lcdOn = false ∧ v.getLsbD 7 = true) := by
  have hv : State.lcdOn { s with lcd := { s.lcd with lcdc := v } } = v.getLsbD 7 := rfl
  unfold State.writeLcdc
  simp only [hv]
  rcases Bool.eq_false_or_eq_true s.lcdOn with h | h <;> rcases Bool.eq_false_or_eq_true (v.getLsbD 7) with h' | h' <;>
    simp only [h, h', Bool.not_false, Bool.not_true, Bool.and_true, Bool.and_false, Bool.false_eq_true, if_true,
      if_false, and_true, true_or, or_true, reduceCtorEq, and_false]

/-- A write to an I/O register leaves the CPU, the parameters, the frame buffer and the host's side alone. -/
theorem ioWrite_frame (a : Word) (v : Byte) (s : State) :
    (s.ioWrite a v).cfg = s.cfg ∧ (s.ioWrite a v).regs = s.regs ∧ (s.ioWrite a v).ctl = s.ctl ∧ (s.ioWrite a v).ie = s.ie ∧
    (s.ioWrite a v).buttons = s.buttons ∧ (s.ioWrite a v).fb = s.fb ∧ (s.ioWrite a v).frameCount = s.frameCount ∧
    (s.ioWrite a v).inputs = s.inputs ∧ (s.ioWrite a v).cycles = s.cycles ∧ (s.ioWrite a v).mapperState = s.mapperState := by
  unfold State.ioWrite
  split
  case h_9 =>
    rcases writeLcdc_cases v s with ⟨h, -⟩ | ⟨h, -⟩ | ⟨h, -⟩
    · rw [h]; exact ⟨rfl, rfl, rfl, rfl, rfl, rfl, rfl, rfl, rfl, rfl⟩
    · rw [h]; exact ⟨rfl, rfl, rfl, rfl, rfl, rfl, rfl, rfl, rfl, rfl⟩
    · obtain ⟨f, hf⟩ := enterMode_cases .oamScan 80 (State.setWindowLine 0 (State.setLy 0 { s with lcd := { s.lcd with lcdc := v } }))
      rw [h, State.lcdEnable, hf]
      exact ⟨rfl, rfl, rfl, rfl, rfl, rfl, rfl, rfl, rfl, rfl⟩
  case h_15 =>
    obtain ⟨m, hm, -⟩ := startDma_cases v s
    rw [hm]; exact ⟨rfl, rfl, rfl, rfl, rfl, rfl, rfl, rfl, rfl, rfl⟩
  all_goals exact ⟨rfl, rfl, rfl, rfl, rfl, rfl, rfl, rfl, rfl, rfl⟩

/-- What the mapper's two writes can do: its own state changes, and only with a mapper. -/
theorem mapperWriteRom_eq (a : Word) (v : Byte) (s : State) :
    ∃ m : MapperState, s.mapperWriteRom a v = { s with mapperState := m } ∧ (s.cfg.mapper = .noMapper → m = s.mapperState) := by
  unfold State.mapperWriteRom
  split
  · exact ⟨_, rfl, fun _ => rfl⟩
  · next h => exact ⟨_, rfl, fun h' => by rw [h] at h'; cases h'⟩

theorem mapperWriteRam_eq (a : Word) (v : Byte) (s : State) :
    ∃ m : MapperState, s.mapperWriteRam a v = { s with mapperState := m } ∧ (s.cfg.mapper = .noMapper → m = s.mapperState) := by
  unfold State.mapperWriteRam
  split
  · exact ⟨_, rfl, fun _ => rfl⟩
  · next h => exact ⟨_, rfl, fun h' => by rw [h] at h'; cases h'⟩

/-- A bus write leaves the CPU, the parameters, the frame buffer and the host's side alone. -/
theorem write_frame (a : Word) (v : Byte) (s : State) :
    (s.write a v).cfg = s.cfg ∧ (s.write a v).regs = s.regs ∧ (s.write a v).ctl = s.ctl ∧
    (s.write a v).buttons = s.buttons ∧ (s.write a v).fb = s.fb ∧ (s.write a v).frameCount = s.frameCount ∧
    (s.write a v).inputs = s.inputs ∧ (s.write a v).cycles = s.cycles := by
  unfold State.write
  split
  · obtain ⟨m, h, -⟩ := mapperWriteRom_eq a v s
    simp [h]
  · split <;> simp
  · obtain ⟨m, h, -⟩ := mapperWriteRam_eq a v s
    simp [h]
  · simp
  · simp
  · split <;> simp
  · simp
  · obtain ⟨h1, h2, h3, -, h5, h6, h7, h8, h9, -⟩ := ioWrite_frame a v s
    exact ⟨h1, h2, h3, h5, h6, h7, h8, h9⟩
  · simp
  · simp

@[simp] theorem write_cfg (a : Word) (v : Byte) (s : State) : (s.write a v).cfg = s.cfg := (write_frame a v s).1
@[simp] theorem write_regs (a : Word) (v : Byte) (s : State) : (s.write a v).regs = s.regs := (write_frame a v s).2.1
@[simp] theorem write_ctl (a : Word) (v : Byte) (s : State) : (s.write a v).ctl = s.ctl := (write_frame a v s).2.2.1
@[simp] theorem write_buttons (a : Word) (v : Byte) (s : State) : (s.write a v).buttons = s.buttons :=
  (write_frame a v s).2.2.2.1
@[simp] theorem write_fb (a : Word) (v : Byte) (s : State) : (s.write a v).fb = s.fb := (write_frame a v s).2.2.2.2.1
@[simp] theorem write_frameCount (a : Word) (v : Byte) (s : State) : (s.write a v).frameCount = s.frameCount :=
  (write_frame a v s).2.2.2.2.2.1
@[simp] theorem write_inputs (a : Word) (v : Byte) (s : State) : (s.write a v).inputs = s.inputs :=
  (write_frame a v s).2.2.2.2.2.2.1
@[simp] theorem write_cycles (a : Word) (v : Byte) (s : State) : (s.write a v).cycles = s.cycles :=
  (write_frame a v s).2.2.2.2.2.2.2

/-- With no mapper a bus write leaves the mapper's state alone. -/
theorem write_mapperState {s : State} (h : s.cfg.mapper = .noMapper) (a : Word) (v : Byte) :
    (s.write a v).mapperState = s.mapperState := by
  unfold State.write
  split
  · obtain ⟨m, he, hm⟩ := mapperWriteRom_eq a v s
    rw [he]; exact hm h
  · split <;> rfl
  · obtain ⟨m, he, hm⟩ := mapperWriteRam_eq a v s
    rw [he]; exact hm h
  · rfl
  · rfl
  · split <;> rfl
  · rfl
  · exact (ioWrite_frame a v s).2.2.2.2.2.2.2.2.2
  · rfl
  · rfl

/-- A write through `x[code]` leaves the control flip-flops, the parameters and the host's side alone. -/
@[simp] theorem writeX_ctl (x : Operand8) (v : Byte) (s : State) : (s.writeX x v).ctl = s.ctl := by
  cases x <;> simp [State.writeX]
@[simp] theorem writeX_cfg (x : Operand8) (v : Byte) (s : State) : (s.writeX x v).cfg = s.cfg := by
  cases x <;> simp [State.writeX]
@[simp] theorem writeX_inputs (x : Operand8) (v : Byte) (s : State) : (s.writeX x v).inputs = s.inputs := by
  cases x <;> simp [State.writeX]
@[simp] theorem writeX_regs_flags (x : Operand8) (v : Byte) (s : State) : (s.writeX x v).regs.flags = s.regs.flags := by
  cases x <;> simp [State.writeX]
@[simp] theorem writeX_regs_pc (x : Operand8) (v : Byte) (s : State) : (s.writeX x v).regs.pc = s.regs.pc := by
  cases x <;> simp [State.writeX]
@[simp] theorem writeX_regs_sp (x : Operand8) (v : Byte) (s : State) : (s.writeX x v).regs.sp = s.regs.sp := by
  cases x <;> simp [State.writeX]

/-- A push moves `SP` by one or two and leaves the other registers and the flip-flops alone. -/
@[simp] theorem pushByte_regs (v : Byte) (s : State) : (s.pushByte v).regs = { s.regs with sp := s.regs.sp - 1 } := by
  simp [State.pushByte, State.setSp]
@[simp] theorem pushByte_ctl (v : Byte) (s : State) : (s.pushByte v).ctl = s.ctl := by simp [State.pushByte]
@[simp] theorem pushByte_cfg (v : Byte) (s : State) : (s.pushByte v).cfg = s.cfg := by simp [State.pushByte]
@[simp] theorem pushByte_inputs (v : Byte) (s : State) : (s.pushByte v).inputs = s.inputs := by simp [State.pushByte]
@[simp] theorem push16_regs (v : Word) (s : State) : (s.push16 v).regs = { s.regs with sp := s.regs.sp - 2 } := by
  have h : ∀ w : Word, w - 1#16 - 1#16 = w - 2#16 := by intro w; rw [BitVec.sub_sub]; rfl
  simp [State.push16, h]
@[simp] theorem push16_ctl (v : Word) (s : State) : (s.push16 v).ctl = s.ctl := by simp [State.push16]
@[simp] theorem push16_cfg (v : Word) (s : State) : (s.push16 v).cfg = s.cfg := by simp [State.push16]
@[simp] theorem push16_inputs (v : Word) (s : State) : (s.push16 v).inputs = s.inputs := by simp [State.push16]

/-- The OAM copy does not depend on the CPU registers and flip-flops. -/
theorem startDma_withCpu (v : Byte) (r : Regs) (c : CpuState) (s : State) :
    State.startDma v { s with regs := r, ctl := c } = { s.startDma v with regs := r, ctl := c } := by
  have hf : ∀ (l : List Nat) (s : State), l.foldl (State.dmaCopyByte v) { s with regs := r, ctl := c } =
      { l.foldl (State.dmaCopyByte v) s with regs := r, ctl := c } := by
    intro l
    induction l with
    | nil => exact fun _ => rfl
    | cons i l ih => exact fun s => ih (State.dmaCopyByte v s i)
  unfold State.startDma
  rw [hf (List.range 160) { s with lcd := { s.lcd with dma := v } }]

/-- Nor does a mode entry. -/
theorem enterMode_withCpu (m : Mode) (d : Nat) (r : Regs) (c : CpuState) (s : State) :
    State.enterMode m d { s with regs := r, ctl := c } = { s.enterMode m d with regs := r, ctl := c } := by
  unfold State.enterMode
  simp only [evalCoincidence_eq, requestWhen_eq]

/-- Nor does a write to an I/O register. -/
theorem ioWrite_withCpu (a : Word) (v : Byte) (r : Regs) (c : CpuState) (s : State) :
    State.ioWrite a v { s with regs := r, ctl := c } = { s.ioWrite a v with regs := r, ctl := c } := by
  unfold State.ioWrite
  cases ioReg a
  case dma => exact startDma_withCpu v r c s
  case lcdc =>
    have hl : State.lcdOn { s with regs := r, ctl := c } = s.lcdOn := rfl
    have h1 : State.lcdOn { s with lcd := { s.lcd with lcdc := v } } = v.getLsbD 7 := rfl
    have h2 : State.lcdOn { s with regs := r, ctl := c, lcd := { s.lcd with lcdc := v } } = v.getLsbD 7 := rfl
    dsimp only
    unfold State.writeLcdc
    simp only [hl, h1, h2]
    cases s.lcdOn <;> cases v.getLsbD 7
    case false.true => exact enterMode_withCpu .oamScan 80 r c (State.setWindowLine 0 (State.setLy 0 { s with lcd := { s.lcd with lcdc := v } }))
    all_goals rfl
  all_goals rfl

/-- A bus write does not depend on the CPU registers and flip-flops, and leaves them alone. -/
theorem write_withCpu (a : Word) (v : Byte) (r : Regs) (c : CpuState) (s : State) :
    State.write a v { s with regs := r, ctl := c } = { s.write a v with regs := r, ctl := c } := by
  have hv : State.vramBlocked { s with regs := r, ctl := c } = s.vramBlocked := rfl
  have ho : State.oamBlocked { s with regs := r, ctl := c } = s.oamBlocked := rfl
  unfold State.write
  rw [hv, ho]
  cases region a
  case io => exact ioWrite_withCpu a v r c s
  case vram => dsimp only; split <;> rfl
  case oam => dsimp only; split <;> rfl
  case rom => dsimp only; unfold State.mapperWriteRom; split <;> simp_all
  case cartRam => dsimp only; unfold State.mapperWriteRam; split <;> simp_all
  all_goals rfl

theorem write_withRegs (a : Word) (v : Byte) (r : Regs) (s : State) :
    State.write a v { s with regs := r } = { s.write a v with regs := r } := by
  exact (write_withCpu a v r s.ctl s).trans (by simp)

/-- What a push leaves: two bus writes, high byte first, and `SP` moved by two. -/
theorem push16_eq (v : Word) (s : State) :
    s.push16 v = { (s.write (s.regs.sp - 1) (hiByte v)).write (s.regs.sp - 2) (loByte v) with
      regs := { s.regs with sp := s.regs.sp - 2 } } := by
  have h2 : s.regs.sp - 1 - 1 = s.regs.sp - 2 := by rw [BitVec.sub_sub]; rfl
  simp only [State.push16, State.pushByte, State.setSp, write_withRegs, h2]

/-- The bounds of the regions of the address map. -/
theorem region_bounds (a : Word) :
    match region a with
    | .rom => a.toNat ≤ 0x7FFF
    | .vram => 0x8000 ≤ a.toNat ∧ a.toNat ≤ 0x9FFF
    | .cartRam => 0xA000 ≤ a.toNat ∧ a.toNat ≤ 0xBFFF
    | .wram => 0xC000 ≤ a.toNat ∧ a.toNat ≤ 0xDFFF
    | .echo => 0xE000 ≤ a.toNat ∧ a.toNat ≤ 0xFDFF
    | .oam => 0xFE00 ≤ a.toNat ∧ a.toNat ≤ 0xFE9F
    | .unusable => 0xFEA0 ≤ a.toNat ∧ a.toNat ≤ 0xFEFF
    | .io => 0xFF00 ≤ a.toNat ∧ a.toNat ≤ 0xFF7F
    | .hram => 0xFF80 ≤ a.toNat ∧ a.toNat ≤ 0xFFFE
    | .ie => a.toNat = 0xFFFF := by
  have := a.isLt
  unfold region
  generalize a.toNat = n at *
  split_ifs <;> dsimp only <;> omega

/-- An I/O address that is not named is a byte of storage. -/
theorem isStorage_of_plain {a : Word} (hr : region a = .io) (hp : ioReg a = .plain) : isStorage a.toNat = true := by
  have hb := region_bounds a
  rw [hr] at hb
  have hn : (ioTable.lookup a.toNat).isNone = true := by
    unfold ioReg at hp
    cases h : ioTable.lookup a.toNat with
    | none => rfl
    | some r =>
      rw [h] at hp
      have : ∀ p ∈ ioTable, p.2 ≠ .plain := by decide
      have hmem : ∀ (l : List (Nat × IoReg)) (k : Nat) (r : IoReg), l.lookup k = some r → ∃ p ∈ l, p.2 = r := by
        intro l
        induction l with
        | nil => intro k r h; simp at h
        | cons p l ih =>
          intro k r h
          rw [List.lookup_cons] at h
          split at h
          · exact ⟨p, by simp, by simpa using h⟩
          · obtain ⟨q, hq, e⟩ := ih k r h
            exact ⟨q, by simp [hq], e⟩
      obtain ⟨p, hp1, hp2⟩ := hmem _ _ _ h
      exact absurd (hp2.trans (by simpa using hp)) (this p hp1)
  simp only [isStorage, Bool.or_eq_true, Bool.and_eq_true, decide_eq_true_eq]
  exact .inr ⟨⟨hb.1, by omega⟩, hn⟩

/-- A write to a byte of storage is the store of that byte. -/
theorem write_storesByte {a : Word} {s : State} (h : s.storesByte a = true) (v : Byte) :
    s.write a v = s.store (storageAddress a) v := by
  unfold State.storesByte at h
  unfold State.write storageAddress
  cases hr : region a <;> simp only [hr] at h ⊢ <;> first | (simp at h; done) | skip
  · simp at h; simp [h]
  · simp
  · simp
  · simp at h; simp [h]
  · have hp : ioReg a = .plain := by simpa using h
    simp [State.ioWrite, hp]
  · simp

/-- Where a bus write can reach memory: it stores to one byte that has storage, or copies to OAM, or changes no byte. -/
theorem write_mem_cases (a : Word) (v : Byte) (s : State) :
    (s.write a v).mem = s.mem ∨ (∃ b, isStorage b = true ∧ 0x8000 ≤ b ∧ (s.write a v).mem = s.mem.write b v) ∨
    (∃ m : Memory, (s.write a v).mem = m ∧ (∀ b, (b < 0xFE00 ∨ 0xFEA0 ≤ b) → m.read b = s.mem.read b) ∧
      (Memory.wf s.mem → Memory.wf m) ∧ (∀ c ∈ m, c ∈ s.mem ∨ (0xFE00 ≤ c.1 ∧ c.1 < 0xFEA0))) := by
  have hb := region_bounds a
  have hst : ∀ b : Nat, 0x8000 ≤ b → (b ≤ 0x9FFF ∨ (0xC000 ≤ b ∧ b ≤ 0xDFFF) ∨ (0xFE00 ≤ b ∧ b ≤ 0xFE9F)) → isStorage b = true := by
    intro b h0 h
    simp only [isStorage, Bool.or_eq_true, Bool.and_eq_true, decide_eq_true_eq]
    rcases h with h | h | h
    · exact .inl (.inl (.inl h))
    · exact .inl (.inl (.inr h))
    · exact .inl (.inr h)
  unfold State.write
  split <;> rename_i hr <;> simp only [hr] at hb
  · obtain ⟨m, h, -⟩ := mapperWriteRom_eq a v s
    exact .inl (by rw [h])
  · split
    · exact .inl rfl
    · exact .inr (.inl ⟨a.toNat, hst _ hb.1 (.inl hb.2), hb.1, rfl⟩)
  · obtain ⟨m, h, -⟩ := mapperWriteRam_eq a v s
    exact .inl (by rw [h])
  · exact .inr (.inl ⟨a.toNat, hst _ (by omega) (.inr (.inl hb)), by omega, rfl⟩)
  · exact .inr (.inl ⟨a.toNat - 0x2000, hst _ (by omega) (.inr (.inl (by omega))), by omega, rfl⟩)
  · split
    · exact .inl rfl
    · exact .inr (.inl ⟨a.toNat, hst _ (by omega) (.inr (.inr hb)), by omega, rfl⟩)
  · exact .inl rfl
  · unfold State.ioWrite
    split
    case h_9 =>
      left
      rcases writeLcdc_cases v s with ⟨h, -⟩ | ⟨h, -⟩ | ⟨h, -⟩
      · rw [h]
      · rw [h]; rfl
      · obtain ⟨f, hf⟩ := enterMode_cases .oamScan 80 (State.setWindowLine 0 (State.setLy 0 { s with lcd := { s.lcd with lcdc := v } }))
        rw [h, State.lcdEnable, hf]; rfl
    case h_15 =>
      obtain ⟨m, hm, hr, hw, hc⟩ := startDma_cases v s
      exact .inr (.inr ⟨m, by rw [hm], hr, hw, hc⟩)
    case h_21 hp => exact .inr (.inl ⟨a.toNat, isStorage_of_plain hr hp, by omega, rfl⟩)
    all_goals exact .inl rfl
  · refine .inr (.inl ⟨a.toNat, ?_, by omega, rfl⟩)
    have hn : ∀ k, 0xFF80 ≤ k → (ioTable.lookup k).isNone = true := by
      intro k hk
      have : ∀ (l : List (Nat × IoReg)), (∀ p ∈ l, p.1 < 0xFF80) → l.lookup k = none := by
        intro l
        induction l with
        | nil => intro _; rfl
        | cons p l ih =>
          intro h
          have h1 := h p (by simp)
          have h2 : (k == p.1) = false := by simp; omega
          rw [List.lookup_cons, h2]
          exact ih fun q hq => h q (by simp [hq])
      rw [this ioTable (by decide)]; rfl
    simp only [isStorage, Bool.or_eq_true, Bool.and_eq_true, decide_eq_true_eq]
    exact .inr ⟨⟨by omega, by omega⟩, hn _ hb.1⟩
  · exact .inl rfl

/-- A bus write keeps memory canonical. -/
theorem write_memoryCanonical {s : State} (h : s.memoryCanonical) (a : Word) (v : Byte) :
    (s.write a v).memoryCanonical := by
  rcases write_mem_cases a v s with he | ⟨b, hb, -, he⟩ | ⟨m, he, -, hw, hc⟩
  · unfold State.memoryCanonical; rw [he]; exact h
  · unfold State.memoryCanonical
    rw [he]
    refine ⟨Memory.wf_write h.1 _ _, fun c hc => ?_⟩
    rcases Memory.mem_write hc with hc | hc
    · rw [hc]; exact hb
    · exact h.2 c hc
  · unfold State.memoryCanonical
    rw [he]
    refine ⟨hw h.1, fun c hcm => ?_⟩
    rcases hc c hcm with hc | hc
    · exact h.2 c hc
    · simp only [isStorage, Bool.or_eq_true, Bool.and_eq_true, decide_eq_true_eq]
      exact .inl (.inr ⟨hc.1, by omega⟩)

/-- A bus write never changes a byte of cartridge ROM. -/
theorem write_rom (a : Word) (v : Byte) (s : State) {b : Nat} (hb : b < 0x8000) :
    (s.write a v).mem.read b = s.mem.read b := by
  rcases write_mem_cases a v s with he | ⟨c, -, hc, he⟩ | ⟨m, he, hr, -, -⟩
  · rw [he]
  · rw [he, Memory.read_write_of_ne _ (by omega)]
  · rw [he, hr b (.inl (by omega))]

end Sys2Proof.Machine
end

