-- ==== Sys2Proof/Laws/Decode.lean ====
section
/-! SUPPORT. The decoder's tables beside the encoder: what every row of the opcode page and of the CB page builds encodes
to the bytes that select it, so a decoded instruction is never longer than the bytes it was read from. -/

set_option maxRecDepth 20000

namespace Sys2Proof

/-- What a row of the opcode page says about the encodings of the instructions it builds. -/
def Row.encodesTo (op : Byte) : Row → Prop
  | .op i => encode i = [op]
  | .byte f => ∀ n, encode (f n) = [op, n]
  | .word f => ∀ n, encode (f n) = [op, loByte n, hiByte n]
  | .cb => op = 0xCB

/-- Every opcode byte has a row, and the row builds what encodes to that byte. -/
theorem opcodeRow_encodesTo (op : Byte) : ∃ r, opcodeRow op = some r ∧ r.encodesTo op := by
  have : ∀ n : Fin 256, ∃ r, opcodeRow (BitVec.ofFin n) = some r ∧ r.encodesTo (BitVec.ofFin n) := by
    intro n
    fin_cases n <;> exact ⟨_, rfl, by first | rfl | (intro _; rfl)⟩
  exact this op.toFin

/-- Every CB-opcode byte has a row, and the row is the instruction that encodes to it. -/
theorem cbRow_encode (op2 : Byte) : ∃ i, cbRow op2 = some i ∧ encode i = [0xCB, op2] := by
  have : ∀ n : Fin 256, ∃ i, cbRow (BitVec.ofFin n) = some i ∧ encode i = [0xCB, BitVec.ofFin n] := by
    intro n
    fin_cases n <;> exact ⟨_, rfl, rfl⟩
  exact this op2.toFin

/-- Decoding consumes the opcode byte at least. -/
theorem decode_rest_length {op : Byte} {tl rest : List Byte} {i : Instr} (h : decode (op :: tl) = .ok (i, rest)) :
    rest.length ≤ tl.length := by
  obtain ⟨r, hr, -⟩ := opcodeRow_encodesTo op
  simp only [decode, hr] at h
  cases r with
  | op j => cases h; exact le_refl _
  | byte f =>
    cases tl with
    | nil => cases h
    | cons n tl => cases h; simp
  | word f =>
    rcases tl with _ | ⟨l, _ | ⟨u, tl⟩⟩
    · cases h
    · cases h
    · cases h; simp; omega
  | cb =>
    cases tl with
    | nil => cases h; exact le_refl _
    | cons n tl =>
      obtain ⟨j, hj, -⟩ := cbRow_encode n
      simp only [hj] at h
      cases h; simp

end Sys2Proof
end

