-- ==== Sys2Proof/Laws/Devices.lean ====
section
/-! SUPPORT. What one tick of each device can do, said once: the fields it never touches, and what it keeps of the
invariant. -/

namespace Sys2Proof.Machine

/-- Rendering a line writes the frame buffer's line and the window's line counter. -/
theorem renderLine_eq (line : Nat) (s : State) :
    s.renderLine line = { s with
      fb := s.fb.setLine line (s.renderedLine line)
      ppu := { s.ppu with windowLine := if s.windowDraws line then s.ppu.windowLine + 1 else s.ppu.windowLine } } := rfl

/-- A rendered line has 160 shades. -/
theorem renderedLine_length (line : Nat) (s : State) : (s.renderedLine line).length = 160 := by
  simp [State.renderedLine]

/-- At most ten sprites are selected for a line. -/
theorem selectSprites_length (line : Nat) (s : State) : (s.selectSprites line).length ≤ 10 := by
  unfold State.selectSprites
  split
  · simp
  · simp

/-- A tick of the PPU writes the PPU's own state, the LCD registers, `IF`, the frame buffer and the frame count only. -/
theorem ppuTick_cases (s : State) :
    ∃ (p : PpuState) (l : LcdRegs) (f : BitVec 5) (b : FrameBuffer) (n : Nat), s.frameCount ≤ n ∧
      s.ppuTick = { s with ppu := p, lcd := l, iflag := f, fb := b, frameCount := n } := by
  unfold State.ppuTick
  split
  · dsimp only
    split
    · split
      · rw [State.endOamScan]
        dsimp only
        obtain ⟨f, hf⟩ := enterMode_cases .drawing (172 + s.cfg.spriteDrawPenalty * (State.selectSprites
          { s with ppu := { s.ppu with cyclesRemaining := s.ppu.cyclesRemaining - 1 } } s.lcd.ly.toNat).length)
          { s with ppu := { s.ppu with
              cyclesRemaining := s.ppu.cyclesRemaining - 1
              drawLen := 172 + s.cfg.spriteDrawPenalty * (State.selectSprites
                { s with ppu := { s.ppu with cyclesRemaining := s.ppu.cyclesRemaining - 1 } } s.lcd.ly.toNat).length } }
        rw [hf]
        exact ⟨_, _, _, _, _, le_refl _, rfl⟩
      · rw [State.endDrawing]
        obtain ⟨f, hf⟩ := enterMode_cases .hBlank (456 - 80 - s.ppu.drawLen) (State.renderLine s.lcd.ly.toNat
          { s with ppu := { s.ppu with cyclesRemaining := s.ppu.cyclesRemaining - 1 } })
        rw [hf]
        exact ⟨_, _, _, _, _, le_refl _, rfl⟩
      · rw [State.endHBlank]
        dsimp only
        split
        · obtain ⟨f, hf⟩ := enterMode_cases .vBlank 456 (State.setLy 144 { s with
            ppu := { s.ppu with cyclesRemaining := s.ppu.cyclesRemaining - 1 }, frameCount := s.frameCount + 1 })
          rw [hf]
          exact ⟨_, _, _, _, _, Nat.le_succ _, rfl⟩
        · obtain ⟨f, hf⟩ := enterMode_cases .oamScan 80 (State.setLy (s.lcd.ly + 1) { s with
            ppu := { s.ppu with cyclesRemaining := s.ppu.cyclesRemaining - 1 } })
          rw [hf]
          exact ⟨_, _, _, _, _, le_refl _, rfl⟩
      · rw [State.endVBlankLine]
        dsimp only
        split
        · obtain ⟨f, hf⟩ := enterMode_cases .oamScan 80 (State.setWindowLine 0 (State.setLy 0 { s with
            ppu := { s.ppu with cyclesRemaining := s.ppu.cyclesRemaining - 1 } }))
          rw [hf]
          exact ⟨_, _, _, _, _, le_refl _, rfl⟩
        · rw [evalCoincidence_eq]
          exact ⟨_, _, _, _, _, le_refl _, rfl⟩
    · exact ⟨_, _, _, _, _, le_refl _, rfl⟩
  · exact ⟨s.ppu, s.lcd, s.iflag, s.fb, s.frameCount, le_refl _, rfl⟩

/-- A tick of the timer writes the timer and `IF` bit 2 only. -/
theorem timerTick_eq (s : State) :
    s.timerTick = { s with
      timer := s.timer.reloadStep.1.countStep s.cfg.timaReloadDelay
      iflag := if s.timer.reloadStep.2 then s.iflag ||| 4#5 else s.iflag } := by
  unfold State.timerTick
  rw [requestWhen_eq]
  rfl

/-- A cycle of the devices takes one cycle from the DMA window. -/
theorem tickDevices_dmaBusy (s : State) : s.tickDevices.dmaBusy = s.dmaBusy - 1 := by
  obtain ⟨p, l, f, b, n, -, h⟩ := ppuTick_cases s
  rw [State.tickDevices, h, timerTick_eq, State.dmaTick]

/-- A cycle of the devices leaves the CPU, the launch parameters, memory and the host's side alone. -/
theorem tickDevices_frame (s : State) :
    s.tickDevices.cfg = s.cfg ∧ s.tickDevices.regs = s.regs ∧ s.tickDevices.ctl = s.ctl ∧ s.tickDevices.ie = s.ie ∧
    s.tickDevices.mem = s.mem ∧ s.tickDevices.joySel = s.joySel ∧ s.tickDevices.buttons = s.buttons ∧
    s.tickDevices.sb = s.sb ∧ s.tickDevices.sc = s.sc ∧ s.tickDevices.inputs = s.inputs ∧
    s.tickDevices.cycles = s.cycles ∧ s.tickDevices.mapperState = s.mapperState ∧ s.frameCount ≤ s.tickDevices.frameCount := by
  obtain ⟨p, l, f, b, n, hn, h⟩ := ppuTick_cases s
  unfold State.tickDevices
  rw [h, timerTick_eq]
  exact ⟨rfl, rfl, rfl, rfl, rfl, rfl, rfl, rfl, rfl, rfl, rfl, rfl, hn⟩

end Sys2Proof.Machine
end

