-- ==== Sys2Proof/Laws/Families.lean ====
section
/-! SUPPORT. The 512 instructions by family: a case analysis over the families instead of the constructors, and for
every family the shared operation its meanings are. -/

namespace Sys2Proof

/-- What holds of every family of instructions holds of every instruction. -/
theorem Instr.byFamily {motive : Instr → Prop}
    (nop : motive .nop)
    (stop : ∀ (pad : Byte), motive (.stop pad))
    (halt : motive .halt)
    (di : motive .di)
    (ei : motive .ei)
    (prefix_CB : motive .prefix_CB)
    (ldRR : ∀ (dst src : Reg8), motive (.ldRR dst src))
    (ldRN8 : ∀ (dst : Reg8) (n : Byte), motive (.ldRN8 dst n))
    (ldRM : ∀ (dst : Reg8), motive (.ldRM dst))
    (ldMR : ∀ (r : Reg8), motive (.ldMR r))
    (ld_mHL_n8 : ∀ (n : Byte), motive (.ld_mHL_n8 n))
    (ld_A_mBC : motive .ld_A_mBC)
    (ld_A_mDE : motive .ld_A_mDE)
    (ld_A_ma16 : ∀ (a : Word), motive (.ld_A_ma16 a))
    (ldh_A_mC : motive .ldh_A_mC)
    (ldh_A_ma8 : ∀ (a : Byte), motive (.ldh_A_ma8 a))
    (ld_mBC_A : motive .ld_mBC_A)
    (ld_mDE_A : motive .ld_mDE_A)
    (ld_ma16_A : ∀ (a : Word), motive (.ld_ma16_A a))
    (ldh_mC_A : motive .ldh_mC_A)
    (ldh_ma8_A : ∀ (a : Byte), motive (.ldh_ma8_A a))
    (ld_A_mHLi : motive .ld_A_mHLi)
    (ld_A_mHLd : motive .ld_A_mHLd)
    (ld_mHLi_A : motive .ld_mHLi_A)
    (ld_mHLd_A : motive .ld_mHLd_A)
    (alu : ∀ (op : AluOp) (x : Operand8), motive (.alu op x))
    (aluN8 : ∀ (op : AluOp) (n : Byte), motive (.aluN8 op n))
    (incX : ∀ (x : Operand8), motive (.incX x))
    (decX : ∀ (x : Operand8), motive (.decX x))
    (daa : motive .daa)
    (cpl : motive .cpl)
    (scf : motive .scf)
    (ccf : motive .ccf)
    (ldRrN16 : ∀ (p : Reg16) (n : Word), motive (.ldRrN16 p n))
    (ld_ma16_SP : ∀ (a : Word), motive (.ld_ma16_SP a))
    (ld_SP_HL : motive .ld_SP_HL)
    (ld_HL_SPe8 : ∀ (e : Byte), motive (.ld_HL_SPe8 e))
    (add_SP_e8 : ∀ (e : Byte), motive (.add_SP_e8 e))
    (push : ∀ (p : StackReg), motive (.push p))
    (pop : ∀ (p : StackReg), motive (.pop p))
    (incRr : ∀ (p : Reg16), motive (.incRr p))
    (decRr : ∀ (p : Reg16), motive (.decRr p))
    (addHlRr : ∀ (p : Reg16), motive (.addHlRr p))
    (rlca : motive .rlca)
    (rrca : motive .rrca)
    (rla : motive .rla)
    (rra : motive .rra)
    (rot : ∀ (op : RotOp) (x : Operand8), motive (.rot op x))
    (bit : ∀ (b : Fin 8) (x : Operand8), motive (.bit b x))
    (res : ∀ (b : Fin 8) (x : Operand8), motive (.res b x))
    (set : ∀ (b : Fin 8) (x : Operand8), motive (.set b x))
    (jp_a16 : ∀ (a : Word), motive (.jp_a16 a))
    (jp_HL : motive .jp_HL)
    (jpCc : ∀ (cc : Cond) (a : Word), motive (.jpCc cc a))
    (jr_e8 : ∀ (e : Byte), motive (.jr_e8 e))
    (jrCc : ∀ (cc : Cond) (e : Byte), motive (.jrCc cc e))
    (call_a16 : ∀ (a : Word), motive (.call_a16 a))
    (callCc : ∀ (cc : Cond) (a : Word), motive (.callCc cc a))
    (ret : motive .ret)
    (retCc : ∀ (cc : Cond), motive (.retCc cc))
    (reti : motive .reti)
    (rst : ∀ (n : Fin 8), motive (.rst n))
    (illegal : ∀ (op : Byte) (i : Instr), (op, i) ∈ Instr.illegalRows → motive i) : ∀ i, motive i
  | .nop => nop | .ld_BC_n16 v => ldRrN16 .bc v | .ld_mBC_A => ld_mBC_A | .inc_BC => incRr .bc
  | .inc_B => incX (.reg .b) | .dec_B => decX (.reg .b) | .ld_B_n8 v => ldRN8 .b v | .rlca => rlca
  | .ld_ma16_SP v => ld_ma16_SP v | .add_HL_BC => addHlRr .bc | .ld_A_mBC => ld_A_mBC | .dec_BC => decRr .bc
  | .inc_C => incX (.reg .c) | .dec_C => decX (.reg .c) | .ld_C_n8 v => ldRN8 .c v | .rrca => rrca
  | .stop v => stop v | .ld_DE_n16 v => ldRrN16 .de v | .ld_mDE_A => ld_mDE_A | .inc_DE => incRr .de
  | .inc_D => incX (.reg .d) | .dec_D => decX (.reg .d) | .ld_D_n8 v => ldRN8 .d v | .rla => rla
  | .jr_e8 v => jr_e8 v | .add_HL_DE => addHlRr .de | .ld_A_mDE => ld_A_mDE | .dec_DE => decRr .de
  | .inc_E => incX (.reg .e) | .dec_E => decX (.reg .e) | .ld_E_n8 v => ldRN8 .e v | .rra => rra
  | .jr_NZ_e8 v => jrCc .nz v | .ld_HL_n16 v => ldRrN16 .hl v | .ld_mHLi_A => ld_mHLi_A | .inc_HL => incRr .hl
  | .inc_H => incX (.reg .h) | .dec_H => decX (.reg .h) | .ld_H_n8 v => ldRN8 .h v | .daa => daa
  | .jr_Z_e8 v => jrCc .z v | .add_HL_HL => addHlRr .hl | .ld_A_mHLi => ld_A_mHLi | .dec_HL => decRr .hl
  | .inc_L => incX (.reg .l) | .dec_L => decX (.reg .l) | .ld_L_n8 v => ldRN8 .l v | .cpl => cpl
  | .jr_NC_e8 v => jrCc .nc v | .ld_SP_n16 v => ldRrN16 .sp v | .ld_mHLd_A => ld_mHLd_A | .inc_SP => incRr .sp
  | .inc_mHL => incX .mHL | .dec_mHL => decX .mHL | .ld_mHL_n8 v => ld_mHL_n8 v | .scf => scf
  | .jr_C_e8 v => jrCc .c v | .add_HL_SP => addHlRr .sp | .ld_A_mHLd => ld_A_mHLd | .dec_SP => decRr .sp
  | .inc_A => incX (.reg .a) | .dec_A => decX (.reg .a) | .ld_A_n8 v => ldRN8 .a v | .ccf => ccf
  | .ld_B_B => ldRR .b .b | .ld_B_C => ldRR .b .c | .ld_B_D => ldRR .b .d | .ld_B_E => ldRR .b .e
  | .ld_B_H => ldRR .b .h | .ld_B_L => ldRR .b .l | .ld_B_mHL => ldRM .b | .ld_B_A => ldRR .b .a
  | .ld_C_B => ldRR .c .b | .ld_C_C => ldRR .c .c | .ld_C_D => ldRR .c .d | .ld_C_E => ldRR .c .e
  | .ld_C_H => ldRR .c .h | .ld_C_L => ldRR .c .l | .ld_C_mHL => ldRM .c | .ld_C_A => ldRR .c .a
  | .ld_D_B => ldRR .d .b | .ld_D_C => ldRR .d .c | .ld_D_D => ldRR .d .d | .ld_D_E => ldRR .d .e
  | .ld_D_H => ldRR .d .h | .ld_D_L => ldRR .d .l | .ld_D_mHL => ldRM .d | .ld_D_A => ldRR .d .a
  | .ld_E_B => ldRR .e .b | .ld_E_C => ldRR .e .c | .ld_E_D => ldRR .e .d | .ld_E_E => ldRR .e .e
  | .ld_E_H => ldRR .e .h | .ld_E_L => ldRR .e .l | .ld_E_mHL => ldRM .e | .ld_E_A => ldRR .e .a
  | .ld_H_B => ldRR .h .b | .ld_H_C => ldRR .h .c | .ld_H_D => ldRR .h .d | .ld_H_E => ldRR .h .e
  | .ld_H_H => ldRR .h .h | .ld_H_L => ldRR .h .l | .ld_H_mHL => ldRM .h | .ld_H_A => ldRR .h .a
  | .ld_L_B => ldRR .l .b | .ld_L_C => ldRR .l .c | .ld_L_D => ldRR .l .d | .ld_L_E => ldRR .l .e
  | .ld_L_H => ldRR .l .h | .ld_L_L => ldRR .l .l | .ld_L_mHL => ldRM .l | .ld_L_A => ldRR .l .a
  | .ld_mHL_B => ldMR .b | .ld_mHL_C => ldMR .c | .ld_mHL_D => ldMR .d | .ld_mHL_E => ldMR .e | .ld_mHL_H => ldMR .h
  | .ld_mHL_L => ldMR .l | .halt => halt | .ld_mHL_A => ldMR .a | .ld_A_B => ldRR .a .b | .ld_A_C => ldRR .a .c
  | .ld_A_D => ldRR .a .d | .ld_A_E => ldRR .a .e | .ld_A_H => ldRR .a .h | .ld_A_L => ldRR .a .l
  | .ld_A_mHL => ldRM .a | .ld_A_A => ldRR .a .a | .add_A_B => alu .add (.reg .b) | .add_A_C => alu .add (.reg .c)
  | .add_A_D => alu .add (.reg .d) | .add_A_E => alu .add (.reg .e) | .add_A_H => alu .add (.reg .h)
  | .add_A_L => alu .add (.reg .l) | .add_A_mHL => alu .add .mHL | .add_A_A => alu .add (.reg .a)
  | .adc_A_B => alu .adc (.reg .b) | .adc_A_C => alu .adc (.reg .c) | .adc_A_D => alu .adc (.reg .d)
  | .adc_A_E => alu .adc (.reg .e) | .adc_A_H => alu .adc (.reg .h) | .adc_A_L => alu .adc (.reg .l)
  | .adc_A_mHL => alu .adc .mHL | .adc_A_A => alu .adc (.reg .a) | .sub_B => alu .sub (.reg .b)
  | .sub_C => alu .sub (.reg .c) | .sub_D => alu .sub (.reg .d) | .sub_E => alu .sub (.reg .e)
  | .sub_H => alu .sub (.reg .h) | .sub_L => alu .sub (.reg .l) | .sub_mHL => alu .sub .mHL
  | .sub_A => alu .sub (.reg .a) | .sbc_A_B => alu .sbc (.reg .b) | .sbc_A_C => alu .sbc (.reg .c)
  | .sbc_A_D => alu .sbc (.reg .d) | .sbc_A_E => alu .sbc (.reg .e) | .sbc_A_H => alu .sbc (.reg .h)
  | .sbc_A_L => alu .sbc (.reg .l) | .sbc_A_mHL => alu .sbc .mHL | .sbc_A_A => alu .sbc (.reg .a)
  | .and_B => alu .and (.reg .b) | .and_C => alu .and (.reg .c) | .and_D => alu .and (.reg .d)
  | .and_E => alu .and (.reg .e) | .and_H => alu .and (.reg .h) | .and_L => alu .and (.reg .l)
  | .and_mHL => alu .and .mHL | .and_A => alu .and (.reg .a) | .xor_B => alu .xor (.reg .b)
  | .xor_C => alu .xor (.reg .c) | .xor_D => alu .xor (.reg .d) | .xor_E => alu .xor (.reg .e)
  | .xor_H => alu .xor (.reg .h) | .xor_L => alu .xor (.reg .l) | .xor_mHL => alu .xor .mHL
  | .xor_A => alu .xor (.reg .a) | .or_B => alu .or (.reg .b) | .or_C => alu .or (.reg .c)
  | .or_D => alu .or (.reg .d) | .or_E => alu .or (.reg .e) | .or_H => alu .or (.reg .h) | .or_L => alu .or (.reg .l)
  | .or_mHL => alu .or .mHL | .or_A => alu .or (.reg .a) | .cp_B => alu .cp (.reg .b) | .cp_C => alu .cp (.reg .c)
  | .cp_D => alu .cp (.reg .d) | .cp_E => alu .cp (.reg .e) | .cp_H => alu .cp (.reg .h) | .cp_L => alu .cp (.reg .l)
  | .cp_mHL => alu .cp .mHL | .cp_A => alu .cp (.reg .a) | .ret_NZ => retCc .nz | .pop_BC => pop .bc
  | .jp_NZ_a16 v => jpCc .nz v | .jp_a16 v => jp_a16 v | .call_NZ_a16 v => callCc .nz v | .push_BC => push .bc
  | .add_A_n8 v => aluN8 .add v | .rst_00H => rst 0 | .ret_Z => retCc .z | .ret => ret | .jp_Z_a16 v => jpCc .z v
  | .prefix_CB => prefix_CB | .call_Z_a16 v => callCc .z v | .call_a16 v => call_a16 v | .adc_A_n8 v => aluN8 .adc v
  | .rst_08H => rst 1 | .ret_NC => retCc .nc | .pop_DE => pop .de | .jp_NC_a16 v => jpCc .nc v
  | .illegal_D3 => illegal 0xD3 _ (by decide) | .call_NC_a16 v => callCc .nc v | .push_DE => push .de
  | .sub_n8 v => aluN8 .sub v | .rst_10H => rst 2 | .ret_C => retCc .c | .reti => reti | .jp_C_a16 v => jpCc .c v
  | .illegal_DB => illegal 0xDB _ (by decide) | .call_C_a16 v => callCc .c v
  | .illegal_DD => illegal 0xDD _ (by decide) | .sbc_A_n8 v => aluN8 .sbc v | .rst_18H => rst 3
  | .ldh_ma8_A v => ldh_ma8_A v | .pop_HL => pop .hl | .ldh_mC_A => ldh_mC_A
  | .illegal_E3 => illegal 0xE3 _ (by decide) | .illegal_E4 => illegal 0xE4 _ (by decide) | .push_HL => push .hl
  | .and_n8 v => aluN8 .and v | .rst_20H => rst 4 | .add_SP_e8 v => add_SP_e8 v | .jp_HL => jp_HL
  | .ld_ma16_A v => ld_ma16_A v | .illegal_EB => illegal 0xEB _ (by decide)
  | .illegal_EC => illegal 0xEC _ (by decide) | .illegal_ED => illegal 0xED _ (by decide) | .xor_n8 v => aluN8 .xor v
  | .rst_28H => rst 5 | .ldh_A_ma8 v => ldh_A_ma8 v | .pop_AF => pop .af | .ldh_A_mC => ldh_A_mC | .di => di
  | .illegal_F4 => illegal 0xF4 _ (by decide) | .push_AF => push .af | .or_n8 v => aluN8 .or v | .rst_30H => rst 6
  | .ld_HL_SPe8 v => ld_HL_SPe8 v | .ld_SP_HL => ld_SP_HL | .ld_A_ma16 v => ld_A_ma16 v | .ei => ei
  | .illegal_FC => illegal 0xFC _ (by decide) | .illegal_FD => illegal 0xFD _ (by decide) | .cp_n8 v => aluN8 .cp v
  | .rst_38H => rst 7 | .rlc_B => rot .rlc (.reg .b) | .rlc_C => rot .rlc (.reg .c) | .rlc_D => rot .rlc (.reg .d)
  | .rlc_E => rot .rlc (.reg .e) | .rlc_H => rot .rlc (.reg .h) | .rlc_L => rot .rlc (.reg .l)
  | .rlc_mHL => rot .rlc .mHL | .rlc_A => rot .rlc (.reg .a) | .rrc_B => rot .rrc (.reg .b)
  | .rrc_C => rot .rrc (.reg .c) | .rrc_D => rot .rrc (.reg .d) | .rrc_E => rot .rrc (.reg .e)
  | .rrc_H => rot .rrc (.reg .h) | .rrc_L => rot .rrc (.reg .l) | .rrc_mHL => rot .rrc .mHL
  | .rrc_A => rot .rrc (.reg .a) | .rl_B => rot .rl (.reg .b) | .rl_C => rot .rl (.reg .c)
  | .rl_D => rot .rl (.reg .d) | .rl_E => rot .rl (.reg .e) | .rl_H => rot .rl (.reg .h) | .rl_L => rot .rl (.reg .l)
  | .rl_mHL => rot .rl .mHL | .rl_A => rot .rl (.reg .a) | .rr_B => rot .rr (.reg .b) | .rr_C => rot .rr (.reg .c)
  | .rr_D => rot .rr (.reg .d) | .rr_E => rot .rr (.reg .e) | .rr_H => rot .rr (.reg .h) | .rr_L => rot .rr (.reg .l)
  | .rr_mHL => rot .rr .mHL | .rr_A => rot .rr (.reg .a) | .sla_B => rot .sla (.reg .b)
  | .sla_C => rot .sla (.reg .c) | .sla_D => rot .sla (.reg .d) | .sla_E => rot .sla (.reg .e)
  | .sla_H => rot .sla (.reg .h) | .sla_L => rot .sla (.reg .l) | .sla_mHL => rot .sla .mHL
  | .sla_A => rot .sla (.reg .a) | .sra_B => rot .sra (.reg .b) | .sra_C => rot .sra (.reg .c)
  | .sra_D => rot .sra (.reg .d) | .sra_E => rot .sra (.reg .e) | .sra_H => rot .sra (.reg .h)
  | .sra_L => rot .sra (.reg .l) | .sra_mHL => rot .sra .mHL | .sra_A => rot .sra (.reg .a)
  | .swap_B => rot .swap (.reg .b) | .swap_C => rot .swap (.reg .c) | .swap_D => rot .swap (.reg .d)
  | .swap_E => rot .swap (.reg .e) | .swap_H => rot .swap (.reg .h) | .swap_L => rot .swap (.reg .l)
  | .swap_mHL => rot .swap .mHL | .swap_A => rot .swap (.reg .a) | .srl_B => rot .srl (.reg .b)
  | .srl_C => rot .srl (.reg .c) | .srl_D => rot .srl (.reg .d) | .srl_E => rot .srl (.reg .e)
  | .srl_H => rot .srl (.reg .h) | .srl_L => rot .srl (.reg .l) | .srl_mHL => rot .srl .mHL
  | .srl_A => rot .srl (.reg .a) | .bit_0_B => bit 0 (.reg .b) | .bit_0_C => bit 0 (.reg .c)
  | .bit_0_D => bit 0 (.reg .d) | .bit_0_E => bit 0 (.reg .e) | .bit_0_H => bit 0 (.reg .h)
  | .bit_0_L => bit 0 (.reg .l) | .bit_0_mHL => bit 0 .mHL | .bit_0_A => bit 0 (.reg .a)
  | .bit_1_B => bit 1 (.reg .b) | .bit_1_C => bit 1 (.reg .c) | .bit_1_D => bit 1 (.reg .d)
  | .bit_1_E => bit 1 (.reg .e) | .bit_1_H => bit 1 (.reg .h) | .bit_1_L => bit 1 (.reg .l)
  | .bit_1_mHL => bit 1 .mHL | .bit_1_A => bit 1 (.reg .a) | .bit_2_B => bit 2 (.reg .b)
  | .bit_2_C => bit 2 (.reg .c) | .bit_2_D => bit 2 (.reg .d) | .bit_2_E => bit 2 (.reg .e)
  | .bit_2_H => bit 2 (.reg .h) | .bit_2_L => bit 2 (.reg .l) | .bit_2_mHL => bit 2 .mHL
  | .bit_2_A => bit 2 (.reg .a) | .bit_3_B => bit 3 (.reg .b) | .bit_3_C => bit 3 (.reg .c)
  | .bit_3_D => bit 3 (.reg .d) | .bit_3_E => bit 3 (.reg .e) | .bit_3_H => bit 3 (.reg .h)
  | .bit_3_L => bit 3 (.reg .l) | .bit_3_mHL => bit 3 .mHL | .bit_3_A => bit 3 (.reg .a)
  | .bit_4_B => bit 4 (.reg .b) | .bit_4_C => bit 4 (.reg .c) | .bit_4_D => bit 4 (.reg .d)
  | .bit_4_E => bit 4 (.reg .e) | .bit_4_H => bit 4 (.reg .h) | .bit_4_L => bit 4 (.reg .l)
  | .bit_4_mHL => bit 4 .mHL | .bit_4_A => bit 4 (.reg .a) | .bit_5_B => bit 5 (.reg .b)
  | .bit_5_C => bit 5 (.reg .c) | .bit_5_D => bit 5 (.reg .d) | .bit_5_E => bit 5 (.reg .e)
  | .bit_5_H => bit 5 (.reg .h) | .bit_5_L => bit 5 (.reg .l) | .bit_5_mHL => bit 5 .mHL
  | .bit_5_A => bit 5 (.reg .a) | .bit_6_B => bit 6 (.reg .b) | .bit_6_C => bit 6 (.reg .c)
  | .bit_6_D => bit 6 (.reg .d) | .bit_6_E => bit 6 (.reg .e) | .bit_6_H => bit 6 (.reg .h)
  | .bit_6_L => bit 6 (.reg .l) | .bit_6_mHL => bit 6 .mHL | .bit_6_A => bit 6 (.reg .a)
  | .bit_7_B => bit 7 (.reg .b) | .bit_7_C => bit 7 (.reg .c) | .bit_7_D => bit 7 (.reg .d)
  | .bit_7_E => bit 7 (.reg .e) | .bit_7_H => bit 7 (.reg .h) | .bit_7_L => bit 7 (.reg .l)
  | .bit_7_mHL => bit 7 .mHL | .bit_7_A => bit 7 (.reg .a) | .res_0_B => res 0 (.reg .b)
  | .res_0_C => res 0 (.reg .c) | .res_0_D => res 0 (.reg .d) | .res_0_E => res 0 (.reg .e)
  | .res_0_H => res 0 (.reg .h) | .res_0_L => res 0 (.reg .l) | .res_0_mHL => res 0 .mHL
  | .res_0_A => res 0 (.reg .a) | .res_1_B => res 1 (.reg .b) | .res_1_C => res 1 (.reg .c)
  | .res_1_D => res 1 (.reg .d) | .res_1_E => res 1 (.reg .e) | .res_1_H => res 1 (.reg .h)
  | .res_1_L => res 1 (.reg .l) | .res_1_mHL => res 1 .mHL | .res_1_A => res 1 (.reg .a)
  | .res_2_B => res 2 (.reg .b) | .res_2_C => res 2 (.reg .c) | .res_2_D => res 2 (.reg .d)
  | .res_2_E => res 2 (.reg .e) | .res_2_H => res 2 (.reg .h) | .res_2_L => res 2 (.reg .l)
  | .res_2_mHL => res 2 .mHL | .res_2_A => res 2 (.reg .a) | .res_3_B => res 3 (.reg .b)
  | .res_3_C => res 3 (.reg .c) | .res_3_D => res 3 (.reg .d) | .res_3_E => res 3 (.reg .e)
  | .res_3_H => res 3 (.reg .h) | .res_3_L => res 3 (.reg .l) | .res_3_mHL => res 3 .mHL
  | .res_3_A => res 3 (.reg .a) | .res_4_B => res 4 (.reg .b) | .res_4_C => res 4 (.reg .c)
  | .res_4_D => res 4 (.reg .d) | .res_4_E => res 4 (.reg .e) | .res_4_H => res 4 (.reg .h)
  | .res_4_L => res 4 (.reg .l) | .res_4_mHL => res 4 .mHL | .res_4_A => res 4 (.reg .a)
  | .res_5_B => res 5 (.reg .b) | .res_5_C => res 5 (.reg .c) | .res_5_D => res 5 (.reg .d)
  | .res_5_E => res 5 (.reg .e) | .res_5_H => res 5 (.reg .h) | .res_5_L => res 5 (.reg .l)
  | .res_5_mHL => res 5 .mHL | .res_5_A => res 5 (.reg .a) | .res_6_B => res 6 (.reg .b)
  | .res_6_C => res 6 (.reg .c) | .res_6_D => res 6 (.reg .d) | .res_6_E => res 6 (.reg .e)
  | .res_6_H => res 6 (.reg .h) | .res_6_L => res 6 (.reg .l) | .res_6_mHL => res 6 .mHL
  | .res_6_A => res 6 (.reg .a) | .res_7_B => res 7 (.reg .b) | .res_7_C => res 7 (.reg .c)
  | .res_7_D => res 7 (.reg .d) | .res_7_E => res 7 (.reg .e) | .res_7_H => res 7 (.reg .h)
  | .res_7_L => res 7 (.reg .l) | .res_7_mHL => res 7 .mHL | .res_7_A => res 7 (.reg .a)
  | .set_0_B => set 0 (.reg .b) | .set_0_C => set 0 (.reg .c) | .set_0_D => set 0 (.reg .d)
  | .set_0_E => set 0 (.reg .e) | .set_0_H => set 0 (.reg .h) | .set_0_L => set 0 (.reg .l)
  | .set_0_mHL => set 0 .mHL | .set_0_A => set 0 (.reg .a) | .set_1_B => set 1 (.reg .b)
  | .set_1_C => set 1 (.reg .c) | .set_1_D => set 1 (.reg .d) | .set_1_E => set 1 (.reg .e)
  | .set_1_H => set 1 (.reg .h) | .set_1_L => set 1 (.reg .l) | .set_1_mHL => set 1 .mHL
  | .set_1_A => set 1 (.reg .a) | .set_2_B => set 2 (.reg .b) | .set_2_C => set 2 (.reg .c)
  | .set_2_D => set 2 (.reg .d) | .set_2_E => set 2 (.reg .e) | .set_2_H => set 2 (.reg .h)
  | .set_2_L => set 2 (.reg .l) | .set_2_mHL => set 2 .mHL | .set_2_A => set 2 (.reg .a)
  | .set_3_B => set 3 (.reg .b) | .set_3_C => set 3 (.reg .c) | .set_3_D => set 3 (.reg .d)
  | .set_3_E => set 3 (.reg .e) | .set_3_H => set 3 (.reg .h) | .set_3_L => set 3 (.reg .l)
  | .set_3_mHL => set 3 .mHL | .set_3_A => set 3 (.reg .a) | .set_4_B => set 4 (.reg .b)
  | .set_4_C => set 4 (.reg .c) | .set_4_D => set 4 (.reg .d) | .set_4_E => set 4 (.reg .e)
  | .set_4_H => set 4 (.reg .h) | .set_4_L => set 4 (.reg .l) | .set_4_mHL => set 4 .mHL
  | .set_4_A => set 4 (.reg .a) | .set_5_B => set 5 (.reg .b) | .set_5_C => set 5 (.reg .c)
  | .set_5_D => set 5 (.reg .d) | .set_5_E => set 5 (.reg .e) | .set_5_H => set 5 (.reg .h)
  | .set_5_L => set 5 (.reg .l) | .set_5_mHL => set 5 .mHL | .set_5_A => set 5 (.reg .a)
  | .set_6_B => set 6 (.reg .b) | .set_6_C => set 6 (.reg .c) | .set_6_D => set 6 (.reg .d)
  | .set_6_E => set 6 (.reg .e) | .set_6_H => set 6 (.reg .h) | .set_6_L => set 6 (.reg .l)
  | .set_6_mHL => set 6 .mHL | .set_6_A => set 6 (.reg .a) | .set_7_B => set 7 (.reg .b)
  | .set_7_C => set 7 (.reg .c) | .set_7_D => set 7 (.reg .d) | .set_7_E => set 7 (.reg .e)
  | .set_7_H => set 7 (.reg .h) | .set_7_L => set 7 (.reg .l) | .set_7_mHL => set 7 .mHL
  | .set_7_A => set 7 (.reg .a)

namespace Machine

@[simp] theorem exec_nop (s : State) : exec .nop s = nopAct s := rfl
@[simp] theorem exec_stop (pad : Byte) (s : State) : exec (.stop pad) s = stopAct pad s := rfl
@[simp] theorem exec_halt (s : State) : exec .halt s = haltAct s := rfl
@[simp] theorem exec_di (s : State) : exec .di s = diAct s := rfl
@[simp] theorem exec_ei (s : State) : exec .ei s = eiAct s := rfl
@[simp] theorem exec_prefix_CB (s : State) : exec .prefix_CB s = prefixAct s := rfl
@[simp] theorem exec_ldRR (dst src : Reg8) (s : State) : exec (.ldRR dst src) s = ldRR dst src s := by cases dst <;> cases src <;> rfl
@[simp] theorem exec_ldRN8 (dst : Reg8) (n : Byte) (s : State) : exec (.ldRN8 dst n) s = ldRN8 dst n s := by cases dst <;> rfl
@[simp] theorem exec_ldRM (dst : Reg8) (s : State) : exec (.ldRM dst) s = ldRM dst s := by cases dst <;> rfl
@[simp] theorem exec_ldMR (r : Reg8) (s : State) : exec (.ldMR r) s = ldMR r s := by cases r <;> rfl
@[simp] theorem exec_ld_mHL_n8 (n : Byte) (s : State) : exec (.ld_mHL_n8 n) s = ldMN8 n s := rfl
@[simp] theorem exec_ld_A_mBC (s : State) : exec .ld_A_mBC s = ldAMem (s.getPair .bc) 8 s := rfl
@[simp] theorem exec_ld_A_mDE (s : State) : exec .ld_A_mDE s = ldAMem (s.getPair .de) 8 s := rfl
@[simp] theorem exec_ld_A_ma16 (a : Word) (s : State) : exec (.ld_A_ma16 a) s = ldAMem a 16 s := rfl
@[simp] theorem exec_ldh_A_mC (s : State) : exec .ldh_A_mC s = ldAMem (highPage s.regs.c) 8 s := rfl
@[simp] theorem exec_ldh_A_ma8 (a : Byte) (s : State) : exec (.ldh_A_ma8 a) s = ldAMem (highPage a) 12 s := rfl
@[simp] theorem exec_ld_mBC_A (s : State) : exec .ld_mBC_A s = ldMemA (s.getPair .bc) 8 s := rfl
@[simp] theorem exec_ld_mDE_A (s : State) : exec .ld_mDE_A s = ldMemA (s.getPair .de) 8 s := rfl
@[simp] theorem exec_ld_ma16_A (a : Word) (s : State) : exec (.ld_ma16_A a) s = ldMemA a 16 s := rfl
@[simp] theorem exec_ldh_mC_A (s : State) : exec .ldh_mC_A s = ldMemA (highPage s.regs.c) 8 s := rfl
@[simp] theorem exec_ldh_ma8_A (a : Byte) (s : State) : exec (.ldh_ma8_A a) s = ldMemA (highPage a) 12 s := rfl
@[simp] theorem exec_ld_A_mHLi (s : State) : exec .ld_A_mHLi s = ldAMemHlStep 1 s := rfl
@[simp] theorem exec_ld_A_mHLd (s : State) : exec .ld_A_mHLd s = ldAMemHlStep (-1) s := rfl
@[simp] theorem exec_ld_mHLi_A (s : State) : exec .ld_mHLi_A s = ldMemHlStepA 1 s := rfl
@[simp] theorem exec_ld_mHLd_A (s : State) : exec .ld_mHLd_A s = ldMemHlStepA (-1) s := rfl
@[simp] theorem exec_alu (op : AluOp) (x : Operand8) (s : State) : exec (.alu op x) s = aluX op x s := by
  cases op <;> rcases x with r | _ <;> first | rfl | (cases r <;> rfl)
@[simp] theorem exec_aluN8 (op : AluOp) (n : Byte) (s : State) : exec (.aluN8 op n) s = Sys2Proof.Machine.aluN8 op n s := by cases op <;> rfl
@[simp] theorem exec_incX (x : Operand8) (s : State) : exec (.incX x) s = incX x s := by
  rcases x with r | _ <;> first | rfl | (cases r <;> rfl)
@[simp] theorem exec_decX (x : Operand8) (s : State) : exec (.decX x) s = decX x s := by
  rcases x with r | _ <;> first | rfl | (cases r <;> rfl)
@[simp] theorem exec_daa (s : State) : exec .daa s = daaA s := rfl
@[simp] theorem exec_cpl (s : State) : exec .cpl s = cplA s := rfl
@[simp] theorem exec_scf (s : State) : exec .scf s = scfA s := rfl
@[simp] theorem exec_ccf (s : State) : exec .ccf s = ccfA s := rfl
@[simp] theorem exec_ldRrN16 (p : Reg16) (n : Word) (s : State) : exec (.ldRrN16 p n) s = ldPairN16 p n s := by cases p <;> rfl
@[simp] theorem exec_ld_ma16_SP (a : Word) (s : State) : exec (.ld_ma16_SP a) s = ldMemSp a s := rfl
@[simp] theorem exec_ld_SP_HL (s : State) : exec .ld_SP_HL s = ldSpHl s := rfl
@[simp] theorem exec_ld_HL_SPe8 (e : Byte) (s : State) : exec (.ld_HL_SPe8 e) s = ldHlSpE8 e s := rfl
@[simp] theorem exec_add_SP_e8 (e : Byte) (s : State) : exec (.add_SP_e8 e) s = addSpE8 e s := rfl
@[simp] theorem exec_push (p : StackReg) (s : State) : exec (.push p) s = pushPair p s := by cases p <;> rfl
@[simp] theorem exec_pop (p : StackReg) (s : State) : exec (.pop p) s = popPair p s := by cases p <;> rfl
@[simp] theorem exec_incRr (p : Reg16) (s : State) : exec (.incRr p) s = incPair p s := by cases p <;> rfl
@[simp] theorem exec_decRr (p : Reg16) (s : State) : exec (.decRr p) s = decPair p s := by cases p <;> rfl
@[simp] theorem exec_addHlRr (p : Reg16) (s : State) : exec (.addHlRr p) s = addHlPair p s := by cases p <;> rfl
@[simp] theorem exec_rlca (s : State) : exec .rlca s = rotA .rlc s := rfl
@[simp] theorem exec_rrca (s : State) : exec .rrca s = rotA .rrc s := rfl
@[simp] theorem exec_rla (s : State) : exec .rla s = rotA .rl s := rfl
@[simp] theorem exec_rra (s : State) : exec .rra s = rotA .rr s := rfl
@[simp] theorem exec_rot (op : RotOp) (x : Operand8) (s : State) : exec (.rot op x) s = rotX op x s := by
  cases op <;> rcases x with r | _ <;> first | rfl | (cases r <;> rfl)
@[simp] theorem exec_bit (b : Fin 8) (x : Operand8) (s : State) : exec (.bit b x) s = bitX b x s := by
  fin_cases b <;> rcases x with r | _ <;> first | rfl | (cases r <;> rfl)
@[simp] theorem exec_res (b : Fin 8) (x : Operand8) (s : State) : exec (.res b x) s = resX b x s := by
  fin_cases b <;> rcases x with r | _ <;> first | rfl | (cases r <;> rfl)
@[simp] theorem exec_set (b : Fin 8) (x : Operand8) (s : State) : exec (.set b x) s = setX b x s := by
  fin_cases b <;> rcases x with r | _ <;> first | rfl | (cases r <;> rfl)
@[simp] theorem exec_jp_a16 (a : Word) (s : State) : exec (.jp_a16 a) s = jpTo a s := rfl
@[simp] theorem exec_jp_HL (s : State) : exec .jp_HL s = jpHl s := rfl
@[simp] theorem exec_jpCc (cc : Cond) (a : Word) (s : State) : exec (.jpCc cc a) s = jpIf cc a s := by cases cc <;> rfl
@[simp] theorem exec_jr_e8 (e : Byte) (s : State) : exec (.jr_e8 e) s = jrTo e s := rfl
@[simp] theorem exec_jrCc (cc : Cond) (e : Byte) (s : State) : exec (.jrCc cc e) s = jrIf cc e s := by cases cc <;> rfl
@[simp] theorem exec_call_a16 (a : Word) (s : State) : exec (.call_a16 a) s = callTo a s := rfl
@[simp] theorem exec_callCc (cc : Cond) (a : Word) (s : State) : exec (.callCc cc a) s = callIf cc a s := by cases cc <;> rfl
@[simp] theorem exec_ret (s : State) : exec .ret s = retAlways s := rfl
@[simp] theorem exec_retCc (cc : Cond) (s : State) : exec (.retCc cc) s = retIf cc s := by cases cc <;> rfl
@[simp] theorem exec_reti (s : State) : exec .reti s = retInterrupt s := rfl
@[simp] theorem exec_rst (n : Fin 8) (s : State) : exec (.rst n) s = rstTo (BitVec.ofNat 16 (8 * n.val)) s := by fin_cases n <;> rfl
theorem exec_illegal {op : Byte} {i : Instr} (h : (op, i) ∈ Instr.illegalRows) (s : State) : exec i s = illegalOpcode op s := by
  have rows : ∀ r ∈ Instr.illegalRows, exec r.2 s = illegalOpcode r.1 s := by
    simp only [Instr.illegalRows, List.forall_mem_cons, List.not_mem_nil, false_implies, implies_true, and_true]
    and_intros <;> rfl
  exact rows (op, i) h

end Machine

end Sys2Proof
end

