-- ==== Sys2Proof/Laws/Exec.lean ====
section
/-! SUPPORT. What executing an instruction, taking an interrupt, and a whole system step can do, said once: they are made of
writes to the CPU registers, to the control flip-flops and to the cycle count, of bus writes, and (a step) of the device
ticks and the host's button calls. A property those keep, they keep. -/

namespace Sys2Proof.Machine

/-- A property holds of the next state, if the answer is one. -/
def Result.All (P : State → Prop) : Result → Prop
  | .next t => P t
  | .fault _ => True
  | .refused _ => True

theorem Result.all_iff {P : State → Prop} {r : Result} : Result.All P r ↔ ∀ t, r = .next t → P t := by
  cases r with
  | next t => exact ⟨fun h u hu => by cases hu; exact h, fun h => h t rfl⟩
  | fault _ => exact ⟨fun _ t h => (nomatch h), fun _ => trivial⟩
  | refused _ => exact ⟨fun _ t h => (nomatch h), fun _ => trivial⟩

/-- A property that the parts of an instruction's effect keep. -/
structure Kept (P : State → Prop) : Prop where
  regs : ∀ s r, P s → P { s with regs := r }
  ctl : ∀ s c, (s.ctl.stopped = true → c.stopped = true) → P s → P { s with ctl := c }
  cycles : ∀ s n, P s → P { s with cycles := n }
  write : ∀ s a v, P s → P (s.write a v)

variable {P : State → Prop} {s : State}

namespace Kept

theorem setReg (k : Kept P) (r : Reg8) (v : Byte) (h : P s) : P (s.setReg r v) := by cases r <;> exact k.regs _ _ h
theorem setFlags (k : Kept P) (f : Flags) (h : P s) : P (s.setFlags f) := k.regs _ _ h
theorem setPc (k : Kept P) (v : Word) (h : P s) : P (s.setPc v) := k.regs _ _ h
theorem setSp (k : Kept P) (v : Word) (h : P s) : P (s.setSp v) := k.regs _ _ h
theorem setIme (k : Kept P) (v : Bool) (h : P s) : P (s.setIme v) := k.ctl _ _ id h
theorem setPair (k : Kept P) (p : Reg16) (v : Word) (h : P s) : P (s.setPair p v) := by cases p <;> exact k.regs _ _ h
theorem setStackPair (k : Kept P) (p : StackReg) (v : Word) (h : P s) : P (s.setStackPair p v) := by
  cases p <;> exact k.regs _ _ h
theorem writeX (k : Kept P) (x : Operand8) (v : Byte) (h : P s) : P (s.writeX x v) := by
  cases x with
  | reg r => exact k.setReg r v h
  | mHL => exact k.write _ _ _ h
theorem pushByte (k : Kept P) (v : Byte) (h : P s) : P (s.pushByte v) := k.write _ _ _ (k.setSp _ h)
theorem push16 (k : Kept P) (v : Word) (h : P s) : P (s.push16 v) := k.pushByte _ (k.pushByte _ h)
theorem popped (k : Kept P) (h : P s) : P s.popped := k.setSp _ h
theorem finish (k : Kept P) (n : Nat) (h : P s) : Result.All P (s.finish n) := k.cycles _ _ h
theorem returnFromInterrupt (k : Kept P) (h : P s) : P s.returnFromInterrupt := k.setIme _ (k.setPc _ (k.popped h))
theorem promoteEi (k : Kept P) (h : P s) : P s.promoteEi := by
  unfold State.promoteEi
  split
  · exact k.ctl _ _ id h
  · exact h

theorem rotX (k : Kept P) (op : RotOp) (x : Operand8) (h : P s) : Result.All P (rotX op x s) :=
  k.finish _ (k.setFlags _ (k.writeX _ _ h))
theorem bitX (k : Kept P) (b : Fin 8) (x : Operand8) (h : P s) : Result.All P (bitX b x s) := k.finish _ (k.setFlags _ h)
theorem resX (k : Kept P) (b : Fin 8) (x : Operand8) (h : P s) : Result.All P (resX b x s) := k.finish _ (k.writeX _ _ h)
theorem setX (k : Kept P) (b : Fin 8) (x : Operand8) (h : P s) : Result.All P (setX b x s) := k.finish _ (k.writeX _ _ h)
theorem cbOperation (k : Kept P) (op2 : Byte) (h : P s) : Result.All P (cbOperation op2 s) := by
  unfold Sys2Proof.Machine.cbOperation
  dsimp only
  split
  · exact k.rotX _ _ h
  · exact k.bitX _ _ h
  · exact k.resX _ _ h
  · exact k.setX _ _ h
theorem aluApply (k : Kept P) (op : AluOp) (v : Byte) (n : Nat) (h : P s) : Result.All P (aluApply op v n s) :=
  k.finish _ (k.setFlags _ (k.setReg _ _ h))
theorem ite (b : Bool) {p q : Result} (hp : Result.All P p) (hq : Result.All P q) : Result.All P (if b then p else q) := by
  cases b
  · exact hq
  · exact hp

/-- What the parts of an instruction's effect keep, the instruction keeps. -/
theorem exec (k : Kept P) (i : Instr) (h : P s) : Result.All P (exec i s) := by
  revert i
  apply Instr.byFamily
  case nop => exact k.finish 4 h
  case stop => exact fun _ => k.finish 4 (k.ctl _ _ (fun _ => rfl) h)
  case halt =>
    show Result.All P (haltAct s)
    unfold haltAct
    split
    · exact k.finish 4 (k.ctl _ _ id h)
    · exact k.finish 4 (k.ctl _ _ id h)
  case di => exact k.finish 4 (k.setIme _ h)
  case ei => exact k.finish 4 (k.ctl _ _ id h)
  case prefix_CB => exact k.cbOperation _ (k.setPc _ h)
  case ldRR => intro dst src; rw [exec_ldRR]; exact k.finish 4 (k.setReg _ _ h)
  case ldRN8 => intro dst n; rw [exec_ldRN8]; exact k.finish 8 (k.setReg _ _ h)
  case ldRM => intro dst; rw [exec_ldRM]; exact k.finish 8 (k.setReg _ _ h)
  case ldMR => intro r; rw [exec_ldMR]; exact k.finish 8 (k.write _ _ _ h)
  case ld_mHL_n8 => exact fun n => k.finish 12 (k.write _ _ _ h)
  case ld_A_mBC => exact k.finish 8 (k.setReg _ _ h)
  case ld_A_mDE => exact k.finish 8 (k.setReg _ _ h)
  case ld_A_ma16 => exact fun _ => k.finish 16 (k.setReg _ _ h)
  case ldh_A_mC => exact k.finish 8 (k.setReg _ _ h)
  case ldh_A_ma8 => exact fun _ => k.finish 12 (k.setReg _ _ h)
  case ld_mBC_A => exact k.finish 8 (k.write _ _ _ h)
  case ld_mDE_A => exact k.finish 8 (k.write _ _ _ h)
  case ld_ma16_A => exact fun _ => k.finish 16 (k.write _ _ _ h)
  case ldh_mC_A => exact k.finish 8 (k.write _ _ _ h)
  case ldh_ma8_A => exact fun _ => k.finish 12 (k.write _ _ _ h)
  case ld_A_mHLi => exact k.finish 8 (k.setPair _ _ (k.setReg _ _ h))
  case ld_A_mHLd => exact k.finish 8 (k.setPair _ _ (k.setReg _ _ h))
  case ld_mHLi_A => exact k.finish 8 (k.setPair _ _ (k.write _ _ _ h))
  case ld_mHLd_A => exact k.finish 8 (k.setPair _ _ (k.write _ _ _ h))
  case alu => intro op x; rw [exec_alu]; exact k.aluApply _ _ _ h
  case aluN8 => intro op n; rw [exec_aluN8]; exact k.aluApply _ _ _ h
  case incX => intro x; rw [exec_incX]; exact k.finish _ (k.setFlags _ (k.writeX _ _ h))
  case decX => intro x; rw [exec_decX]; exact k.finish _ (k.setFlags _ (k.writeX _ _ h))
  case daa => exact k.finish 4 (k.setFlags _ (k.setReg _ _ h))
  case cpl => exact k.finish 4 (k.setFlags _ (k.setReg _ _ h))
  case scf => exact k.finish 4 (k.setFlags _ h)
  case ccf => exact k.finish 4 (k.setFlags _ h)
  case ldRrN16 => intro p n; rw [exec_ldRrN16]; exact k.finish 12 (k.setPair _ _ h)
  case ld_ma16_SP => exact fun _ => k.finish 20 (k.write _ _ _ (k.write _ _ _ h))
  case ld_SP_HL => exact k.finish 8 (k.setSp _ h)
  case ld_HL_SPe8 => exact fun _ => k.finish 12 (k.setFlags _ (k.setPair _ _ h))
  case add_SP_e8 => exact fun _ => k.finish 16 (k.setFlags _ (k.setSp _ h))
  case push => intro p; rw [exec_push]; exact k.finish 16 (k.push16 _ h)
  case pop => intro p; rw [exec_pop]; exact k.finish 12 (k.setStackPair _ _ (k.popped h))
  case incRr => intro p; rw [exec_incRr]; exact k.finish 8 (k.setPair _ _ h)
  case decRr => intro p; rw [exec_decRr]; exact k.finish 8 (k.setPair _ _ h)
  case addHlRr => intro p; rw [exec_addHlRr]; exact k.finish 8 (k.setFlags _ (k.setPair _ _ h))
  case rlca => exact k.finish 4 (k.setFlags _ (k.setReg _ _ h))
  case rrca => exact k.finish 4 (k.setFlags _ (k.setReg _ _ h))
  case rla => exact k.finish 4 (k.setFlags _ (k.setReg _ _ h))
  case rra => exact k.finish 4 (k.setFlags _ (k.setReg _ _ h))
  case rot => intro op x; rw [exec_rot]; exact k.rotX _ _ h
  case bit => intro b x; rw [exec_bit]; exact k.bitX _ _ h
  case res => intro b x; rw [exec_res]; exact k.resX _ _ h
  case set => intro b x; rw [exec_set]; exact k.setX _ _ h
  case jp_a16 => exact fun _ => k.finish 16 (k.setPc _ h)
  case jp_HL => exact k.finish 4 (k.setPc _ h)
  case jpCc => intro cc a; rw [exec_jpCc]; exact ite _ (k.finish 16 (k.setPc _ h)) (k.finish 12 h)
  case jr_e8 => exact fun _ => k.finish 12 (k.setPc _ h)
  case jrCc => intro cc e; rw [exec_jrCc]; exact ite _ (k.finish 12 (k.setPc _ h)) (k.finish 8 h)
  case call_a16 => exact fun _ => k.finish 24 (k.setPc _ (k.push16 _ h))
  case callCc => intro cc a; rw [exec_callCc]; exact ite _ (k.finish 24 (k.setPc _ (k.push16 _ h))) (k.finish 12 h)
  case ret => exact k.finish 16 (k.setPc _ (k.popped h))
  case retCc => intro cc; rw [exec_retCc]; exact ite _ (k.finish 20 (k.setPc _ (k.popped h))) (k.finish 8 h)
  case reti => exact k.finish 16 (k.returnFromInterrupt h)
  case rst => intro n; rw [exec_rst]; exact k.finish 16 (k.setPc _ (k.push16 _ h))
  case illegal =>
    intro op i hi
    rw [exec_illegal hi, illegalOpcode]
    split
    · exact k.finish 4 h
    · exact True.intro

theorem dispatchInterrupt (k : Kept P) (iflag : ∀ s f, P s → P { s with iflag := f }) (h : P s) : P s.dispatchInterrupt := by
  let t := State.push16 s.regs.pc (State.clearInterrupt (highestPendingBit s.pending) (State.setIme false s))
  have h1 : P t := k.push16 _ (iflag _ _ (k.setIme _ h))
  let u : State := { t with regs := { t.regs with pc := interruptVector (highestPendingBit s.pending) } }
  have h2 : P u := k.regs t _ h1
  have h3 := k.ctl u { t.ctl with halted := false } (fun h => h) h2
  exact k.cycles _ 20 h3

theorem fetchInstr (k : Kept P) {i : Instr} {t : State} (he : s.fetchInstr = .ok (i, t)) (h : P s) : P t := by
  have ha : P s.afterOpcodeFetch := by
    unfold State.afterOpcodeFetch
    split
    · exact k.ctl _ _ id h
    · exact k.setPc _ h
  unfold State.fetchInstr at he
  split at he
  · cases he
  · cases he; exact k.setPc _ ha

theorem cpuStep (k : Kept P) (iflag : ∀ s f, P s → P { s with iflag := f }) (h : P s) : Result.All P s.cpuStep := by
  have hp : P s.promoteEi := k.promoteEi h
  unfold State.cpuStep State.cpuAct
  split
  · exact k.dispatchInterrupt iflag hp
  · split
    · exact k.finish _ (k.ctl _ _ id hp)
    · split
      · exact k.finish _ hp
      · unfold State.runInstruction
        split
        · next he => exact k.exec _ (k.fetchInstr he hp)
        · exact True.intro

end Kept

/-- What a tick of each device keeps, replaying ticks keeps. -/
theorem replay_kept (tick : ∀ s, P s → P s.tickDevices) (n : Nat) (h : P s) : P (s.replay n) := by
  induction n generalizing s with
  | zero => exact h
  | succ n ih => exact ih (tick _ h)

/-- What the host's button calls and dropping a batch of them keep, its actions keep. -/
theorem hostActions_kept (inputs : ∀ s l, P s → P { s with inputs := l }) (setButton : ∀ s e, P s → P (s.setButton e)) (h : P s) :
    P s.hostActions := by
  have hf : ∀ (l : List ButtonEvent) (s : State), P s → P (l.foldl (fun t ev => t.setButton ev) s) := by
    intro l
    induction l with
    | nil => exact fun _ h => h
    | cons e l ih => exact fun _ h => ih _ (setButton _ _ h)
  unfold State.hostActions
  split
  · exact h
  · exact hf _ _ (inputs _ _ h)

/-- A property kept by every part of a system step is kept by the step. -/
theorem step_kept (k : Kept P) (iflag : ∀ s f, P s → P { s with iflag := f }) (inputs : ∀ s l, P s → P { s with inputs := l })
    (buttons : ∀ s b, P s → P { s with buttons := b }) (tick : ∀ s, P s → P s.tickDevices) {t : State} (h : P s)
    (hs : step s = .next t) : P t := by
  have hb : ∀ s e, P s → P (State.setButton e s) := by
    intro s e h
    unfold State.setButton
    rw [requestWhen_eq]
    exact iflag _ _ (buttons _ _ h)
  have hc := Result.all_iff.mp (k.cpuStep iflag (hostActions_kept inputs hb h))
  unfold step State.systemStep at hs
  split at hs
  · next u hu => cases hs; exact replay_kept tick _ (hc u hu)
  · cases hs
  · cases hs

end Sys2Proof.Machine
end

