-- ==== Sys2Proof/Tests/Slice0.lean ====
section
/-! SUPPORT. The model's own tests. Expected results are the spec's: the examples of its rules and the vectors of
95_test_vectors. Then, for every statement with hypotheses, a concrete state and operands that meet them. -/

set_option maxRecDepth 100000

namespace Sys2Proof.Tests

open Sys2Proof Sys2Proof.Machine

/-- The power-on state with some registers changed. -/
def withRegs (f : Regs → Regs) : State := { State.reset with regs := f State.reset.regs }

/-- The power-on state with some control flip-flops changed. -/
def withCtl (f : CpuState → CpuState) (s : State) : State := { s with ctl := f s.ctl }

/-- One `Step()` on bytes placed in work RAM at 0xD000, and a test of the state it gives. -/
def ends (bytes : List Byte) (s : State) (p : State → Bool) : Bool :=
  match State.cpuStep ((s.placeBytes 0xD000 bytes).setPc 0xD000) with
  | .next t => p t
  | .fault _ => false
  | .refused _ => false

/-- One system step, and a test of the state it gives. -/
def stepEnds (s : State) (p : State → Bool) : Bool :=
  match step s with
  | .next t => p t
  | .fault _ => false
  | .refused _ => false

/-- The instruction at the head of a byte list, if there is one. -/
def reads (bytes : List Byte) : Option (Instr × List Byte) := (decode bytes).toOption

/-- Every byte list of a table is exactly the instruction beside it. -/
def allRead (rows : List (List (List Byte × Instr))) : Bool :=
  rows.all fun row => row.all fun p => reads p.1 == some (p.2, [])

/-! ### Well-formedness and decoding -/

/-- The lone prefix is no complete instruction (30_encoding R100, 45_system R295). -/
theorem test_wellFormed_refuses_lone_prefix : Instr.wellFormed .prefix_CB = false := by decide

theorem test_wellFormed_takes_others : Instr.wellFormed .nop = true ∧ Instr.wellFormed (.jp_a16 0xFFFF) = true := by decide

theorem test_decode_rejects_by_name :
    (match decode [] with | .error r => r == .noBytes | .ok _ => false) = true ∧
    (match decode [0x3E] with | .error r => r == .operandMissing 0x3E | .ok _ => false) = true ∧
    (match decode [0xC3, 0x00] with | .error r => r == .operandMissing 0xC3 | .ok _ => false) = true := by decide

/-- The table's numbering: byte 0 low, and the CB rows with byte 0 in the high half (30_encoding section 5). -/
theorem test_decodeTableWord :
    decodeTableWord 8 0x00 = some .nop ∧ decodeTableWord 8 0xC3 = some (.jp_a16 0x0000) ∧
    decodeTableWord 8 0xCB = some .prefix_CB ∧ decodeTableWord 16 0xCB37 = some .swap_A ∧
    decodeTableWord 16 0xCBCB = some .set_1_E ∧ decodeTableWord 16 0x7F3E = some (.ld_A_n8 0x7F) := by decide

/-! Every opcode, its byte written from the fields `xx yyy zzz` (30_encoding R101, R118 to R120). -/

theorem test_decode_loads :
    allRead
     [[([0b01000000], .ld_B_B), ([0b01000001], .ld_B_C), ([0b01000010], .ld_B_D), ([0b01000011], .ld_B_E), ([0b01000100], .ld_B_H), ([0b01000101], .ld_B_L), ([0b01000110], .ld_B_mHL), ([0b01000111], .ld_B_A)],
      [([0b01001000], .ld_C_B), ([0b01001001], .ld_C_C), ([0b01001010], .ld_C_D), ([0b01001011], .ld_C_E), ([0b01001100], .ld_C_H), ([0b01001101], .ld_C_L), ([0b01001110], .ld_C_mHL), ([0b01001111], .ld_C_A)],
      [([0b01010000], .ld_D_B), ([0b01010001], .ld_D_C), ([0b01010010], .ld_D_D), ([0b01010011], .ld_D_E), ([0b01010100], .ld_D_H), ([0b01010101], .ld_D_L), ([0b01010110], .ld_D_mHL), ([0b01010111], .ld_D_A)],
      [([0b01011000], .ld_E_B), ([0b01011001], .ld_E_C), ([0b01011010], .ld_E_D), ([0b01011011], .ld_E_E), ([0b01011100], .ld_E_H), ([0b01011101], .ld_E_L), ([0b01011110], .ld_E_mHL), ([0b01011111], .ld_E_A)],
      [([0b01100000], .ld_H_B), ([0b01100001], .ld_H_C), ([0b01100010], .ld_H_D), ([0b01100011], .ld_H_E), ([0b01100100], .ld_H_H), ([0b01100101], .ld_H_L), ([0b01100110], .ld_H_mHL), ([0b01100111], .ld_H_A)],
      [([0b01101000], .ld_L_B), ([0b01101001], .ld_L_C), ([0b01101010], .ld_L_D), ([0b01101011], .ld_L_E), ([0b01101100], .ld_L_H), ([0b01101101], .ld_L_L), ([0b01101110], .ld_L_mHL), ([0b01101111], .ld_L_A)],
      [([0b01110000], .ld_mHL_B), ([0b01110001], .ld_mHL_C), ([0b01110010], .ld_mHL_D), ([0b01110011], .ld_mHL_E), ([0b01110100], .ld_mHL_H), ([0b01110101], .ld_mHL_L), ([0b01110110], .halt), ([0b01110111], .ld_mHL_A)],
      [([0b01111000], .ld_A_B), ([0b01111001], .ld_A_C), ([0b01111010], .ld_A_D), ([0b01111011], .ld_A_E), ([0b01111100], .ld_A_H), ([0b01111101], .ld_A_L), ([0b01111110], .ld_A_mHL), ([0b01111111], .ld_A_A)]] = true := by decide

theorem test_decode_alu :
    allRead
     [[([0b10000000], .add_A_B), ([0b10000001], .add_A_C), ([0b10000010], .add_A_D), ([0b10000011], .add_A_E), ([0b10000100], .add_A_H), ([0b10000101], .add_A_L), ([0b10000110], .add_A_mHL), ([0b10000111], .add_A_A)],
      [([0b10001000], .adc_A_B), ([0b10001001], .adc_A_C), ([0b10001010], .adc_A_D), ([0b10001011], .adc_A_E), ([0b10001100], .adc_A_H), ([0b10001101], .adc_A_L), ([0b10001110], .adc_A_mHL), ([0b10001111], .adc_A_A)],
      [([0b10010000], .sub_B), ([0b10010001], .sub_C), ([0b10010010], .sub_D), ([0b10010011], .sub_E), ([0b10010100], .sub_H), ([0b10010101], .sub_L), ([0b10010110], .sub_mHL), ([0b10010111], .sub_A)],
      [([0b10011000], .sbc_A_B), ([0b10011001], .sbc_A_C), ([0b10011010], .sbc_A_D), ([0b10011011], .sbc_A_E), ([0b10011100], .sbc_A_H), ([0b10011101], .sbc_A_L), ([0b10011110], .sbc_A_mHL), ([0b10011111], .sbc_A_A)],
      [([0b10100000], .and_B), ([0b10100001], .and_C), ([0b10100010], .and_D), ([0b10100011], .and_E), ([0b10100100], .and_H), ([0b10100101], .and_L), ([0b10100110], .and_mHL), ([0b10100111], .and_A)],
      [([0b10101000], .xor_B), ([0b10101001], .xor_C), ([0b10101010], .xor_D), ([0b10101011], .xor_E), ([0b10101100], .xor_H), ([0b10101101], .xor_L), ([0b10101110], .xor_mHL), ([0b10101111], .xor_A)],
      [([0b10110000], .or_B), ([0b10110001], .or_C), ([0b10110010], .or_D), ([0b10110011], .or_E), ([0b10110100], .or_H), ([0b10110101], .or_L), ([0b10110110], .or_mHL), ([0b10110111], .or_A)],
      [([0b10111000], .cp_B), ([0b10111001], .cp_C), ([0b10111010], .cp_D), ([0b10111011], .cp_E), ([0b10111100], .cp_H), ([0b10111101], .cp_L), ([0b10111110], .cp_mHL), ([0b10111111], .cp_A)],
      [([0b11000110, 0x5A], .add_A_n8 0x5A), ([0b11001110, 0x5A], .adc_A_n8 0x5A), ([0b11010110, 0x5A], .sub_n8 0x5A), ([0b11011110, 0x5A], .sbc_A_n8 0x5A), ([0b11100110, 0x5A], .and_n8 0x5A), ([0b11101110, 0x5A], .xor_n8 0x5A), ([0b11110110, 0x5A], .or_n8 0x5A), ([0b11111110, 0x5A], .cp_n8 0x5A)]] = true := by decide

theorem test_decode_inc_dec8 :
    allRead
     [[([0b00000100], .inc_B), ([0b00001100], .inc_C), ([0b00010100], .inc_D), ([0b00011100], .inc_E), ([0b00100100], .inc_H), ([0b00101100], .inc_L), ([0b00110100], .inc_mHL), ([0b00111100], .inc_A)],
      [([0b00000101], .dec_B), ([0b00001101], .dec_C), ([0b00010101], .dec_D), ([0b00011101], .dec_E), ([0b00100101], .dec_H), ([0b00101101], .dec_L), ([0b00110101], .dec_mHL), ([0b00111101], .dec_A)]] = true := by decide

theorem test_decode_ld_n8 :
    allRead
     [[([0b00000110, 0x5A], .ld_B_n8 0x5A), ([0b00001110, 0x5A], .ld_C_n8 0x5A), ([0b00010110, 0x5A], .ld_D_n8 0x5A), ([0b00011110, 0x5A], .ld_E_n8 0x5A), ([0b00100110, 0x5A], .ld_H_n8 0x5A), ([0b00101110, 0x5A], .ld_L_n8 0x5A), ([0b00110110, 0x5A], .ld_mHL_n8 0x5A), ([0b00111110, 0x5A], .ld_A_n8 0x5A)]] = true := by decide

theorem test_decode_pairs :
    allRead
     [[([0b00000001, 0x34, 0x12], .ld_BC_n16 0x1234), ([0b00000011], .inc_BC), ([0b00001011], .dec_BC), ([0b00001001], .add_HL_BC), ([0b00010001, 0x34, 0x12], .ld_DE_n16 0x1234), ([0b00010011], .inc_DE), ([0b00011011], .dec_DE), ([0b00011001], .add_HL_DE)],
      [([0b00100001, 0x34, 0x12], .ld_HL_n16 0x1234), ([0b00100011], .inc_HL), ([0b00101011], .dec_HL), ([0b00101001], .add_HL_HL), ([0b00110001, 0x34, 0x12], .ld_SP_n16 0x1234), ([0b00110011], .inc_SP), ([0b00111011], .dec_SP), ([0b00111001], .add_HL_SP)]] = true := by decide

theorem test_decode_indirect :
    allRead
     [[([0x02], .ld_mBC_A), ([0x12], .ld_mDE_A), ([0x22], .ld_mHLi_A), ([0x32], .ld_mHLd_A), ([0x0A], .ld_A_mBC), ([0x1A], .ld_A_mDE), ([0x2A], .ld_A_mHLi), ([0x3A], .ld_A_mHLd)],
      [([0x08, 0x34, 0x12], .ld_ma16_SP 0x1234), ([0xEA, 0x34, 0x12], .ld_ma16_A 0x1234), ([0xFA, 0x34, 0x12], .ld_A_ma16 0x1234), ([0xE0, 0x80], .ldh_ma8_A 0x80), ([0xF0, 0x80], .ldh_A_ma8 0x80), ([0xE2], .ldh_mC_A), ([0xF2], .ldh_A_mC)]] = true := by decide

theorem test_decode_accumulator :
    allRead
     [[([0x07], .rlca), ([0x0F], .rrca), ([0x17], .rla), ([0x1F], .rra), ([0x27], .daa), ([0x2F], .cpl), ([0x37], .scf), ([0x3F], .ccf)]] = true := by decide

theorem test_decode_branches :
    allRead
     [[([0b00100000, 0xFE], .jr_NZ_e8 0xFE), ([0b11000000], .ret_NZ), ([0b11000010, 0x34, 0x12], .jp_NZ_a16 0x1234), ([0b11000100, 0x34, 0x12], .call_NZ_a16 0x1234), ([0b00101000, 0xFE], .jr_Z_e8 0xFE), ([0b11001000], .ret_Z), ([0b11001010, 0x34, 0x12], .jp_Z_a16 0x1234), ([0b11001100, 0x34, 0x12], .call_Z_a16 0x1234)],
      [([0b00110000, 0xFE], .jr_NC_e8 0xFE), ([0b11010000], .ret_NC), ([0b11010010, 0x34, 0x12], .jp_NC_a16 0x1234), ([0b11010100, 0x34, 0x12], .call_NC_a16 0x1234), ([0b00111000, 0xFE], .jr_C_e8 0xFE), ([0b11011000], .ret_C), ([0b11011010, 0x34, 0x12], .jp_C_a16 0x1234), ([0b11011100, 0x34, 0x12], .call_C_a16 0x1234)],
      [([0x18, 0x05], .jr_e8 0x05), ([0xC3, 0x34, 0x12], .jp_a16 0x1234), ([0xCD, 0x34, 0x12], .call_a16 0x1234), ([0xC9], .ret), ([0xD9], .reti), ([0xE9], .jp_HL)]] = true := by decide

theorem test_decode_stack :
    allRead
     [[([0b11000001], .pop_BC), ([0b11000101], .push_BC), ([0b11010001], .pop_DE), ([0b11010101], .push_DE), ([0b11100001], .pop_HL), ([0b11100101], .push_HL), ([0b11110001], .pop_AF), ([0b11110101], .push_AF)],
      [([0xF9], .ld_SP_HL), ([0xE8, 0x01], .add_SP_e8 0x01), ([0xF8, 0x02], .ld_HL_SPe8 0x02)]] = true := by decide

theorem test_decode_rst :
    allRead
     [[([0b11000111], .rst_00H), ([0b11001111], .rst_08H), ([0b11010111], .rst_10H), ([0b11011111], .rst_18H), ([0b11100111], .rst_20H), ([0b11101111], .rst_28H), ([0b11110111], .rst_30H), ([0b11111111], .rst_38H)]] = true := by decide

theorem test_decode_system :
    allRead
     [[([0x00], .nop), ([0x10, 0x00], .stop 0x00), ([0x76], .halt), ([0xF3], .di), ([0xFB], .ei), ([0xD3], .illegal_D3), ([0xDB], .illegal_DB), ([0xDD], .illegal_DD)],
      [([0xE3], .illegal_E3), ([0xE4], .illegal_E4), ([0xEB], .illegal_EB), ([0xEC], .illegal_EC), ([0xED], .illegal_ED), ([0xF4], .illegal_F4), ([0xFC], .illegal_FC), ([0xFD], .illegal_FD)]] = true := by decide

theorem test_decode_cb_rotates :
    allRead
     [[([0xCB, 0b00000000], .rlc_B), ([0xCB, 0b00000001], .rlc_C), ([0xCB, 0b00000010], .rlc_D), ([0xCB, 0b00000011], .rlc_E), ([0xCB, 0b00000100], .rlc_H), ([0xCB, 0b00000101], .rlc_L), ([0xCB, 0b00000110], .rlc_mHL), ([0xCB, 0b00000111], .rlc_A)],
      [([0xCB, 0b00001000], .rrc_B), ([0xCB, 0b00001001], .rrc_C), ([0xCB, 0b00001010], .rrc_D), ([0xCB, 0b00001011], .rrc_E), ([0xCB, 0b00001100], .rrc_H), ([0xCB, 0b00001101], .rrc_L), ([0xCB, 0b00001110], .rrc_mHL), ([0xCB, 0b00001111], .rrc_A)],
      [([0xCB, 0b00010000], .rl_B), ([0xCB, 0b00010001], .rl_C), ([0xCB, 0b00010010], .rl_D), ([0xCB, 0b00010011], .rl_E), ([0xCB, 0b00010100], .rl_H), ([0xCB, 0b00010101], .rl_L), ([0xCB, 0b00010110], .rl_mHL), ([0xCB, 0b00010111], .rl_A)],
      [([0xCB, 0b00011000], .rr_B), ([0xCB, 0b00011001], .rr_C), ([0xCB, 0b00011010], .rr_D), ([0xCB, 0b00011011], .rr_E), ([0xCB, 0b00011100], .rr_H), ([0xCB, 0b00011101], .rr_L), ([0xCB, 0b00011110], .rr_mHL), ([0xCB, 0b00011111], .rr_A)],
      [([0xCB, 0b00100000], .sla_B), ([0xCB, 0b00100001], .sla_C), ([0xCB, 0b00100010], .sla_D), ([0xCB, 0b00100011], .sla_E), ([0xCB, 0b00100100], .sla_H), ([0xCB, 0b00100101], .sla_L), ([0xCB, 0b00100110], .sla_mHL), ([0xCB, 0b00100111], .sla_A)],
      [([0xCB, 0b00101000], .sra_B), ([0xCB, 0b00101001], .sra_C), ([0xCB, 0b00101010], .sra_D), ([0xCB, 0b00101011], .sra_E), ([0xCB, 0b00101100], .sra_H), ([0xCB, 0b00101101], .sra_L), ([0xCB, 0b00101110], .sra_mHL), ([0xCB, 0b00101111], .sra_A)],
      [([0xCB, 0b00110000], .swap_B), ([0xCB, 0b00110001], .swap_C), ([0xCB, 0b00110010], .swap_D), ([0xCB, 0b00110011], .swap_E), ([0xCB, 0b00110100], .swap_H), ([0xCB, 0b00110101], .swap_L), ([0xCB, 0b00110110], .swap_mHL), ([0xCB, 0b00110111], .swap_A)],
      [([0xCB, 0b00111000], .srl_B), ([0xCB, 0b00111001], .srl_C), ([0xCB, 0b00111010], .srl_D), ([0xCB, 0b00111011], .srl_E), ([0xCB, 0b00111100], .srl_H), ([0xCB, 0b00111101], .srl_L), ([0xCB, 0b00111110], .srl_mHL), ([0xCB, 0b00111111], .srl_A)]] = true := by decide

theorem test_decode_cb_bit :
    allRead
     [[([0xCB, 0b01000000], .bit_0_B), ([0xCB, 0b01000001], .bit_0_C), ([0xCB, 0b01000010], .bit_0_D), ([0xCB, 0b01000011], .bit_0_E), ([0xCB, 0b01000100], .bit_0_H), ([0xCB, 0b01000101], .bit_0_L), ([0xCB, 0b01000110], .bit_0_mHL), ([0xCB, 0b01000111], .bit_0_A)],
      [([0xCB, 0b01001000], .bit_1_B), ([0xCB, 0b01001001], .bit_1_C), ([0xCB, 0b01001010], .bit_1_D), ([0xCB, 0b01001011], .bit_1_E), ([0xCB, 0b01001100], .bit_1_H), ([0xCB, 0b01001101], .bit_1_L), ([0xCB, 0b01001110], .bit_1_mHL), ([0xCB, 0b01001111], .bit_1_A)],
      [([0xCB, 0b01010000], .bit_2_B), ([0xCB, 0b01010001], .bit_2_C), ([0xCB, 0b01010010], .bit_2_D), ([0xCB, 0b01010011], .bit_2_E), ([0xCB, 0b01010100], .bit_2_H), ([0xCB, 0b01010101], .bit_2_L), ([0xCB, 0b01010110], .bit_2_mHL), ([0xCB, 0b01010111], .bit_2_A)],
      [([0xCB, 0b01011000], .bit_3_B), ([0xCB, 0b01011001], .bit_3_C), ([0xCB, 0b01011010], .bit_3_D), ([0xCB, 0b01011011], .bit_3_E), ([0xCB, 0b01011100], .bit_3_H), ([0xCB, 0b01011101], .bit_3_L), ([0xCB, 0b01011110], .bit_3_mHL), ([0xCB, 0b01011111], .bit_3_A)],
      [([0xCB, 0b01100000], .bit_4_B), ([0xCB, 0b01100001], .bit_4_C), ([0xCB, 0b01100010], .bit_4_D), ([0xCB, 0b01100011], .bit_4_E), ([0xCB, 0b01100100], .bit_4_H), ([0xCB, 0b01100101], .bit_4_L), ([0xCB, 0b01100110], .bit_4_mHL), ([0xCB, 0b01100111], .bit_4_A)],
      [([0xCB, 0b01101000], .bit_5_B), ([0xCB, 0b01101001], .bit_5_C), ([0xCB, 0b01101010], .bit_5_D), ([0xCB, 0b01101011], .bit_5_E), ([0xCB, 0b01101100], .bit_5_H), ([0xCB, 0b01101101], .bit_5_L), ([0xCB, 0b01101110], .bit_5_mHL), ([0xCB, 0b01101111], .bit_5_A)],
      [([0xCB, 0b01110000], .bit_6_B), ([0xCB, 0b01110001], .bit_6_C), ([0xCB, 0b01110010], .bit_6_D), ([0xCB, 0b01110011], .bit_6_E), ([0xCB, 0b01110100], .bit_6_H), ([0xCB, 0b01110101], .bit_6_L), ([0xCB, 0b01110110], .bit_6_mHL), ([0xCB, 0b01110111], .bit_6_A)],
      [([0xCB, 0b01111000], .bit_7_B), ([0xCB, 0b01111001], .bit_7_C), ([0xCB, 0b01111010], .bit_7_D), ([0xCB, 0b01111011], .bit_7_E), ([0xCB, 0b01111100], .bit_7_H), ([0xCB, 0b01111101], .bit_7_L), ([0xCB, 0b01111110], .bit_7_mHL), ([0xCB, 0b01111111], .bit_7_A)]] = true := by decide

theorem test_decode_cb_res :
    allRead
     [[([0xCB, 0b10000000], .res_0_B), ([0xCB, 0b10000001], .res_0_C), ([0xCB, 0b10000010], .res_0_D), ([0xCB, 0b10000011], .res_0_E), ([0xCB, 0b10000100], .res_0_H), ([0xCB, 0b10000101], .res_0_L), ([0xCB, 0b10000110], .res_0_mHL), ([0xCB, 0b10000111], .res_0_A)],
      [([0xCB, 0b10001000], .res_1_B), ([0xCB, 0b10001001], .res_1_C), ([0xCB, 0b10001010], .res_1_D), ([0xCB, 0b10001011], .res_1_E), ([0xCB, 0b10001100], .res_1_H), ([0xCB, 0b10001101], .res_1_L), ([0xCB, 0b10001110], .res_1_mHL), ([0xCB, 0b10001111], .res_1_A)],
      [([0xCB, 0b10010000], .res_2_B), ([0xCB, 0b10010001], .res_2_C), ([0xCB, 0b10010010], .res_2_D), ([0xCB, 0b10010011], .res_2_E), ([0xCB, 0b10010100], .res_2_H), ([0xCB, 0b10010101], .res_2_L), ([0xCB, 0b10010110], .res_2_mHL), ([0xCB, 0b10010111], .res_2_A)],
      [([0xCB, 0b10011000], .res_3_B), ([0xCB, 0b10011001], .res_3_C), ([0xCB, 0b10011010], .res_3_D), ([0xCB, 0b10011011], .res_3_E), ([0xCB, 0b10011100], .res_3_H), ([0xCB, 0b10011101], .res_3_L), ([0xCB, 0b10011110], .res_3_mHL), ([0xCB, 0b10011111], .res_3_A)],
      [([0xCB, 0b10100000], .res_4_B), ([0xCB, 0b10100001], .res_4_C), ([0xCB, 0b10100010], .res_4_D), ([0xCB, 0b10100011], .res_4_E), ([0xCB, 0b10100100], .res_4_H), ([0xCB, 0b10100101], .res_4_L), ([0xCB, 0b10100110], .res_4_mHL), ([0xCB, 0b10100111], .res_4_A)],
      [([0xCB, 0b10101000], .res_5_B), ([0xCB, 0b10101001], .res_5_C), ([0xCB, 0b10101010], .res_5_D), ([0xCB, 0b10101011], .res_5_E), ([0xCB, 0b10101100], .res_5_H), ([0xCB, 0b10101101], .res_5_L), ([0xCB, 0b10101110], .res_5_mHL), ([0xCB, 0b10101111], .res_5_A)],
      [([0xCB, 0b10110000], .res_6_B), ([0xCB, 0b10110001], .res_6_C), ([0xCB, 0b10110010], .res_6_D), ([0xCB, 0b10110011], .res_6_E), ([0xCB, 0b10110100], .res_6_H), ([0xCB, 0b10110101], .res_6_L), ([0xCB, 0b10110110], .res_6_mHL), ([0xCB, 0b10110111], .res_6_A)],
      [([0xCB, 0b10111000], .res_7_B), ([0xCB, 0b10111001], .res_7_C), ([0xCB, 0b10111010], .res_7_D), ([0xCB, 0b10111011], .res_7_E), ([0xCB, 0b10111100], .res_7_H), ([0xCB, 0b10111101], .res_7_L), ([0xCB, 0b10111110], .res_7_mHL), ([0xCB, 0b10111111], .res_7_A)]] = true := by decide

theorem test_decode_cb_set :
    allRead
     [[([0xCB, 0b11000000], .set_0_B), ([0xCB, 0b11000001], .set_0_C), ([0xCB, 0b11000010], .set_0_D), ([0xCB, 0b11000011], .set_0_E), ([0xCB, 0b11000100], .set_0_H), ([0xCB, 0b11000101], .set_0_L), ([0xCB, 0b11000110], .set_0_mHL), ([0xCB, 0b11000111], .set_0_A)],
      [([0xCB, 0b11001000], .set_1_B), ([0xCB, 0b11001001], .set_1_C), ([0xCB, 0b11001010], .set_1_D), ([0xCB, 0b11001011], .set_1_E), ([0xCB, 0b11001100], .set_1_H), ([0xCB, 0b11001101], .set_1_L), ([0xCB, 0b11001110], .set_1_mHL), ([0xCB, 0b11001111], .set_1_A)],
      [([0xCB, 0b11010000], .set_2_B), ([0xCB, 0b11010001], .set_2_C), ([0xCB, 0b11010010], .set_2_D), ([0xCB, 0b11010011], .set_2_E), ([0xCB, 0b11010100], .set_2_H), ([0xCB, 0b11010101], .set_2_L), ([0xCB, 0b11010110], .set_2_mHL), ([0xCB, 0b11010111], .set_2_A)],
      [([0xCB, 0b11011000], .set_3_B), ([0xCB, 0b11011001], .set_3_C), ([0xCB, 0b11011010], .set_3_D), ([0xCB, 0b11011011], .set_3_E), ([0xCB, 0b11011100], .set_3_H), ([0xCB, 0b11011101], .set_3_L), ([0xCB, 0b11011110], .set_3_mHL), ([0xCB, 0b11011111], .set_3_A)],
      [([0xCB, 0b11100000], .set_4_B), ([0xCB, 0b11100001], .set_4_C), ([0xCB, 0b11100010], .set_4_D), ([0xCB, 0b11100011], .set_4_E), ([0xCB, 0b11100100], .set_4_H), ([0xCB, 0b11100101], .set_4_L), ([0xCB, 0b11100110], .set_4_mHL), ([0xCB, 0b11100111], .set_4_A)],
      [([0xCB, 0b11101000], .set_5_B), ([0xCB, 0b11101001], .set_5_C), ([0xCB, 0b11101010], .set_5_D), ([0xCB, 0b11101011], .set_5_E), ([0xCB, 0b11101100], .set_5_H), ([0xCB, 0b11101101], .set_5_L), ([0xCB, 0b11101110], .set_5_mHL), ([0xCB, 0b11101111], .set_5_A)],
      [([0xCB, 0b11110000], .set_6_B), ([0xCB, 0b11110001], .set_6_C), ([0xCB, 0b11110010], .set_6_D), ([0xCB, 0b11110011], .set_6_E), ([0xCB, 0b11110100], .set_6_H), ([0xCB, 0b11110101], .set_6_L), ([0xCB, 0b11110110], .set_6_mHL), ([0xCB, 0b11110111], .set_6_A)],
      [([0xCB, 0b11111000], .set_7_B), ([0xCB, 0b11111001], .set_7_C), ([0xCB, 0b11111010], .set_7_D), ([0xCB, 0b11111011], .set_7_E), ([0xCB, 0b11111100], .set_7_H), ([0xCB, 0b11111101], .set_7_L), ([0xCB, 0b11111110], .set_7_mHL), ([0xCB, 0b11111111], .set_7_A)]] = true := by decide

/-! ### One `Step()`: the examples of the rules -/

theorem test_R131_ld_r_r :
    ends [0x41] (withRegs fun r => { r with b := 0x12, c := 0x34 })
      (fun t => t.regs.b == 0x34 && t.regs.c == 0x34 && t.regs.pc == 0xD001 && t.cycles == 4) = true := by decide

theorem test_R132_ld_r_n8 :
    ends [0x3E, 0x7F] (State.reset)
      (fun t => t.regs.a == 0x7F && t.regs.pc == 0xD002 && t.cycles == 8) = true := by decide

theorem test_R133_ld_r_mHL :
    ends [0x7E] (State.store 0xC000 0x5A (withRegs fun r => { r with h := 0xC0, l := 0x00 }))
      (fun t => t.regs.a == 0x5A && t.cycles == 8) = true := by decide

theorem test_R133_ld_h_mHL :
    ends [0x66] (State.store 0xC000 0x5A (withRegs fun r => { r with h := 0xC0, l := 0x00 }))
      (fun t => t.getPair .hl == 0x5A00) = true := by decide

theorem test_R134_ld_mHL_r :
    ends [0x70] (withRegs fun r => { r with h := 0xC0, l := 0x10, b := 0xAB })
      (fun t => t.mem.read 0xC010 == 0xAB && t.cycles == 8) = true := by decide

theorem test_R134_dropped_on_rom :
    ends [0x70] (withRegs fun r => { r with h := 0x40, l := 0x10, b := 0xAB })
      (fun t => t.mem.read 0x4010 == 0x00 && t.cycles == 8) = true := by decide

theorem test_R135_ld_mHL_n8 :
    ends [0x36, 0x99] (withRegs fun r => { r with h := 0xC0, l := 0x00 })
      (fun t => t.mem.read 0xC000 == 0x99 && t.regs.pc == 0xD002 && t.cycles == 12) = true := by decide

theorem test_R135_over_its_own_byte :
    ends [0x36, 0x99] (withRegs fun r => { r with h := 0xD0, l := 0x01 })
      (fun t => t.mem.read 0xD001 == 0x99 && t.cycles == 12) = true := by decide

theorem test_R136_ld_a_mBC :
    ends [0x0A] (State.store 0xC001 0x77 (withRegs fun r => { r with b := 0xC0, c := 0x01 }))
      (fun t => t.regs.a == 0x77 && t.cycles == 8) = true := by decide

theorem test_R137_ld_a_mDE :
    ends [0x1A] (State.store 0xFF80 0x10 (withRegs fun r => { r with d := 0xFF, e := 0x80 }))
      (fun t => t.regs.a == 0x10 && t.cycles == 8) = true := by decide

theorem test_R138_ld_mBC_a :
    ends [0x02] (withRegs fun r => { r with b := 0xC0, c := 0x02, a := 0x3C })
      (fun t => t.mem.read 0xC002 == 0x3C && t.cycles == 8) = true := by decide

theorem test_R139_ld_mDE_a :
    ends [0x12] (withRegs fun r => { r with d := 0xC0, e := 0x03, a := 0x3C })
      (fun t => t.mem.read 0xC003 == 0x3C && t.cycles == 8) = true := by decide

theorem test_R140_ld_a_ma16 :
    ends [0xFA, 0x34, 0xC1] (State.store 0xC134 0x42 (State.reset))
      (fun t => t.regs.a == 0x42 && t.regs.pc == 0xD003 && t.cycles == 16) = true := by decide

theorem test_R141_ld_ma16_a :
    ends [0xEA, 0x00, 0xC0] (withRegs fun r => { r with a := 0x55 })
      (fun t => t.mem.read 0xC000 == 0x55 && t.regs.pc == 0xD003 && t.cycles == 16) = true := by decide

theorem test_R142_ldh_a_mC :
    ends [0xF2] (State.store 0xFF80 0x21 (withRegs fun r => { r with c := 0x80 }))
      (fun t => t.regs.a == 0x21 && t.cycles == 8) = true := by decide

theorem test_R142_ldh_a_mC_reads_if :
    ends [0xF2] (withRegs fun r => { r with c := 0x0F })
      (fun t => t.regs.a == 0xE1) = true := by decide

theorem test_R143_ldh_mC_a :
    ends [0xE2] (withRegs fun r => { r with c := 0x80, a := 0x99 })
      (fun t => t.mem.read 0xFF80 == 0x99 && t.cycles == 8) = true := by decide

theorem test_R144_ldh_a_ma8 :
    ends [0xF0, 0x44] (withRegs fun r => { r with a := 0x99 })
      (fun t => t.regs.a == 0x00 && t.regs.pc == 0xD002 && t.cycles == 12) = true := by decide

theorem test_R145_ldh_ma8_a :
    ends [0xE0, 0xFF] (withRegs fun r => { r with a := 0x05 })
      (fun t => t.ie == 0x05 && t.regs.pc == 0xD002 && t.cycles == 12) = true := by decide

theorem test_R146_ld_a_mHLd :
    ends [0x3A] (State.store 0xC005 0x11 (withRegs fun r => { r with h := 0xC0, l := 0x05 }))
      (fun t => t.regs.a == 0x11 && t.getPair .hl == 0xC004 && t.cycles == 8) = true := by decide

theorem test_R147_ld_mHLd_a :
    ends [0x32] (withRegs fun r => { r with h := 0xC0, l := 0x05, a := 0x22 })
      (fun t => t.mem.read 0xC005 == 0x22 && t.getPair .hl == 0xC004 && t.cycles == 8) = true := by decide

theorem test_R147_steps_when_dropped :
    ends [0x32] (withRegs fun r => { r with h := 0x00, l := 0x00, a := 0x22 })
      (fun t => t.mem.read 0x0000 == 0x00 && t.getPair .hl == 0xFFFF) = true := by decide

theorem test_R148_ld_a_mHLi :
    ends [0x2A] (State.store 0xC000 0x33 (withRegs fun r => { r with h := 0xC0, l := 0x00 }))
      (fun t => t.regs.a == 0x33 && t.getPair .hl == 0xC001 && t.cycles == 8) = true := by decide

theorem test_R148_wraps :
    ends [0x2A] (withRegs fun r => { r with h := 0xFF, l := 0xFF })
      (fun t => t.regs.a == 0x00 && t.getPair .hl == 0x0000) = true := by decide

theorem test_R149_ld_mHLi_a :
    ends [0x22] (withRegs fun r => { r with h := 0xC0, l := 0x00, a := 0x44 })
      (fun t => t.mem.read 0xC000 == 0x44 && t.getPair .hl == 0xC001 && t.cycles == 8) = true := by decide

theorem test_R161_add :
    ends [0x80] (withRegs fun r => { r with a := 0x3A, b := 0xC6 })
      (fun t => t.regs.a == 0x00 && t.regs.flags.toByte == 0xB0 && t.cycles == 4) = true := by decide

theorem test_R161_add_half :
    ends [0x80] (withRegs fun r => { r with a := 0x0F, b := 0x01 })
      (fun t => t.regs.a == 0x10 && t.regs.flags.toByte == 0x20) = true := by decide

theorem test_R162_add_mHL :
    ends [0x86] (State.store 0xC000 0x12 (withRegs fun r => { r with a := 0x3C, h := 0xC0, l := 0x00 }))
      (fun t => t.regs.a == 0x4E && t.regs.flags.toByte == 0x00 && t.cycles == 8) = true := by decide

theorem test_R163_add_n8 :
    ends [0xC6, 0x38] (withRegs fun r => { r with a := 0x45 })
      (fun t => t.regs.a == 0x7D && t.regs.flags.toByte == 0x00 && t.cycles == 8) = true := by decide

theorem test_R164_adc :
    ends [0x8B] (withRegs fun r => { r with a := 0xE1, e := 0x0F, flags := { z := false, n := false, h := false, c := true } })
      (fun t => t.regs.a == 0xF1 && t.regs.flags.toByte == 0x20 && t.cycles == 4) = true := by decide

theorem test_R165_adc_mHL :
    ends [0x8E] (State.store 0xC000 0x1E (withRegs fun r => { r with a := 0xE1, h := 0xC0, l := 0x00, flags := { z := false, n := false, h := false, c := true } }))
      (fun t => t.regs.a == 0x00 && t.regs.flags.toByte == 0xB0 && t.cycles == 8) = true := by decide

theorem test_R166_adc_n8 :
    ends [0xCE, 0x3B] (withRegs fun r => { r with a := 0xE1, flags := { z := false, n := false, h := false, c := true } })
      (fun t => t.regs.a == 0x1D && t.regs.flags.toByte == 0x10 && t.cycles == 8) = true := by decide

theorem test_R167_sub :
    ends [0x93] (withRegs fun r => { r with a := 0x3E, e := 0x3E })
      (fun t => t.regs.a == 0x00 && t.regs.flags.toByte == 0xC0 && t.cycles == 4) = true := by decide

theorem test_R168_sub_mHL :
    ends [0x96] (State.store 0xC000 0x40 (withRegs fun r => { r with a := 0x3E, h := 0xC0, l := 0x00 }))
      (fun t => t.regs.a == 0xFE && t.regs.flags.toByte == 0x50 && t.cycles == 8) = true := by decide

theorem test_R169_sub_n8 :
    ends [0xD6, 0x0F] (withRegs fun r => { r with a := 0x3E })
      (fun t => t.regs.a == 0x2F && t.regs.flags.toByte == 0x60 && t.cycles == 8) = true := by decide

theorem test_R170_sbc :
    ends [0x9C] (withRegs fun r => { r with a := 0x3B, h := 0x2A, flags := { z := false, n := false, h := false, c := true } })
      (fun t => t.regs.a == 0x10 && t.regs.flags.toByte == 0x40 && t.cycles == 4) = true := by decide

theorem test_R170_sbc_corner :
    ends [0x98] (withRegs fun r => { r with a := 0x10, b := 0x0F, flags := { z := false, n := false, h := false, c := true } })
      (fun t => t.regs.a == 0x00 && t.regs.flags.toByte == 0xE0) = true := by decide

theorem test_R171_sbc_mHL :
    ends [0x9E] (State.store 0xC000 0x4F (withRegs fun r => { r with a := 0x3B, h := 0xC0, l := 0x00, flags := { z := false, n := false, h := false, c := true } }))
      (fun t => t.regs.a == 0xEB && t.regs.flags.toByte == 0x70 && t.cycles == 8) = true := by decide

theorem test_R172_sbc_n8 :
    ends [0xDE, 0x3A] (withRegs fun r => { r with a := 0x3B, flags := { z := false, n := false, h := false, c := true } })
      (fun t => t.regs.a == 0x00 && t.regs.flags.toByte == 0xC0 && t.cycles == 8) = true := by decide

theorem test_R173_and :
    ends [0xA5] (withRegs fun r => { r with a := 0x5A, l := 0x3F })
      (fun t => t.regs.a == 0x1A && t.regs.flags.toByte == 0x20 && t.cycles == 4) = true := by decide

theorem test_R174_and_mHL :
    ends [0xA6] (withRegs fun r => { r with a := 0x5A, h := 0xC0, l := 0x00 })
      (fun t => t.regs.a == 0x00 && t.regs.flags.toByte == 0xA0 && t.cycles == 8) = true := by decide

theorem test_R175_and_n8 :
    ends [0xE6, 0x38] (withRegs fun r => { r with a := 0x5A })
      (fun t => t.regs.a == 0x18 && t.regs.flags.toByte == 0x20 && t.cycles == 8) = true := by decide

theorem test_R176_xor :
    ends [0xAF] (withRegs fun r => { r with a := 0xFF })
      (fun t => t.regs.a == 0x00 && t.regs.flags.toByte == 0x80 && t.cycles == 4) = true := by decide

theorem test_R177_xor_mHL :
    ends [0xAE] (State.store 0xC000 0x8A (withRegs fun r => { r with a := 0xFF, h := 0xC0, l := 0x00 }))
      (fun t => t.regs.a == 0x75 && t.regs.flags.toByte == 0x00 && t.cycles == 8) = true := by decide

theorem test_R178_xor_n8 :
    ends [0xEE, 0x0F] (withRegs fun r => { r with a := 0xFF })
      (fun t => t.regs.a == 0xF0 && t.regs.flags.toByte == 0x00 && t.cycles == 8) = true := by decide

theorem test_R179_or :
    ends [0xB7] (withRegs fun r => { r with a := 0x5A })
      (fun t => t.regs.a == 0x5A && t.regs.flags.toByte == 0x00 && t.cycles == 4) = true := by decide

theorem test_R180_or_mHL :
    ends [0xB6] (State.store 0xC000 0x0F (withRegs fun r => { r with a := 0x5A, h := 0xC0, l := 0x00 }))
      (fun t => t.regs.a == 0x5F && t.regs.flags.toByte == 0x00 && t.cycles == 8) = true := by decide

theorem test_R181_or_n8 :
    ends [0xF6, 0x00] (withRegs fun r => { r with a := 0x00 })
      (fun t => t.regs.a == 0x00 && t.regs.flags.toByte == 0x80 && t.cycles == 8) = true := by decide

theorem test_R182_cp :
    ends [0xB8] (withRegs fun r => { r with a := 0x3C, b := 0x2F })
      (fun t => t.regs.a == 0x3C && t.regs.flags.toByte == 0x60 && t.cycles == 4) = true := by decide

theorem test_R183_cp_mHL :
    ends [0xBE] (State.store 0xC000 0x40 (withRegs fun r => { r with a := 0x3C, h := 0xC0, l := 0x00 }))
      (fun t => t.regs.a == 0x3C && t.regs.flags.toByte == 0x50 && t.cycles == 8) = true := by decide

theorem test_R184_cp_n8 :
    ends [0xFE, 0x3C] (withRegs fun r => { r with a := 0x3C })
      (fun t => t.regs.a == 0x3C && t.regs.flags.toByte == 0xC0 && t.cycles == 8) = true := by decide

theorem test_R185_inc :
    ends [0x3C] (withRegs fun r => { r with a := 0xFF, flags := { z := false, n := false, h := false, c := false } })
      (fun t => t.regs.a == 0x00 && t.regs.flags.toByte == 0xA0 && t.cycles == 4) = true := by decide

theorem test_R186_inc_mHL :
    ends [0x34] (State.store 0xC000 0x50 (withRegs fun r => { r with h := 0xC0, l := 0x00, flags := { z := false, n := false, h := false, c := true } }))
      (fun t => t.mem.read 0xC000 == 0x51 && t.regs.flags.toByte == 0x10 && t.cycles == 12) = true := by decide

theorem test_R186_inc_IF_uses_the_read_value :
    ends [0x34] (withRegs fun r => { r with h := 0xFF, l := 0x0F })
      (fun t => t.iflag == 0b00010 && t.regs.flags.toByte == 0x10) = true := by decide

theorem test_R187_dec :
    ends [0x2D] (withRegs fun r => { r with l := 0x01, flags := { z := false, n := false, h := false, c := true } })
      (fun t => t.regs.l == 0x00 && t.regs.flags.toByte == 0xD0 && t.cycles == 4) = true := by decide

theorem test_R188_dec_mHL :
    ends [0x35] (withRegs fun r => { r with h := 0xC0, l := 0x00, flags := { z := false, n := false, h := false, c := false } })
      (fun t => t.mem.read 0xC000 == 0xFF && t.regs.flags.toByte == 0x60 && t.cycles == 12) = true := by decide

theorem test_R189_daa_after_add :
    ends [0x27] (withRegs fun r => { r with a := 0x7D, flags := { z := false, n := false, h := false, c := false } })
      (fun t => t.regs.a == 0x83 && t.regs.flags.toByte == 0x00 && t.cycles == 4) = true := by decide

theorem test_R189_daa_after_sub :
    ends [0x27] (withRegs fun r => { r with a := 0x00, flags := { z := false, n := true, h := true, c := true } })
      (fun t => t.regs.a == 0x9A && t.regs.flags.toByte == 0x50) = true := by decide

theorem test_R190_cpl :
    ends [0x2F] (withRegs fun r => { r with a := 0x35, flags := { z := true, n := false, h := false, c := true } })
      (fun t => t.regs.a == 0xCA && t.regs.flags.toByte == 0xF0 && t.cycles == 4) = true := by decide

theorem test_R191_scf :
    ends [0x37] (withRegs fun r => { r with flags := { z := true, n := true, h := true, c := false } })
      (fun t => t.regs.flags.toByte == 0x90 && t.cycles == 4) = true := by decide

theorem test_R192_ccf :
    ends [0x3F] (withRegs fun r => { r with flags := { z := true, n := false, h := false, c := true } })
      (fun t => t.regs.flags.toByte == 0x80 && t.cycles == 4) = true := by decide

theorem test_R210_ld_rr_n16 :
    ends [0x21, 0x34, 0x12] (State.reset)
      (fun t => t.regs.h == 0x12 && t.regs.l == 0x34 && t.regs.pc == 0xD003 && t.cycles == 12) = true := by decide

theorem test_R211_ld_ma16_sp :
    ends [0x08, 0x00, 0xC1] (withRegs fun r => { r with sp := 0xFFF8 })
      (fun t => t.mem.read 0xC100 == 0xF8 && t.mem.read 0xC101 == 0xFF && t.cycles == 20) = true := by decide

theorem test_R211_at_the_top :
    ends [0x08, 0xFF, 0xFF] (withRegs fun r => { r with sp := 0x1205 })
      (fun t => t.ie == 0x05 && t.mem.read 0x0000 == 0x00) = true := by decide

theorem test_R212_ld_sp_hl :
    ends [0xF9] (withRegs fun r => { r with h := 0xD0, l := 0x00 })
      (fun t => t.regs.sp == 0xD000 && t.cycles == 8) = true := by decide

theorem test_R213_push :
    ends [0xC5] (withRegs fun r => { r with b := 0x12, c := 0x34 })
      (fun t => t.mem.read 0xFFFD == 0x12 && t.mem.read 0xFFFC == 0x34 && t.regs.sp == 0xFFFC && t.cycles == 16) = true := by decide

theorem test_R213_push_wraps :
    ends [0xC5] (withRegs fun r => { r with b := 0x12, c := 0x34, sp := 0x0001 })
      (fun t => t.ie == 0x34 && t.mem.read 0x0000 == 0x00 && t.regs.sp == 0xFFFF) = true := by decide

theorem test_R214_pop_af :
    ends [0xF1] (State.store 0xFFFD 0x12 (State.store 0xFFFC 0xFF (withRegs fun r => { r with sp := 0xFFFC })))
      (fun t => t.regs.a == 0x12 && t.regs.flags.toByte == 0xF0 && t.regs.sp == 0xFFFE && t.cycles == 12) = true := by decide

theorem test_R215_ld_hl_sp_e8 :
    ends [0xF8, 0x02] (withRegs fun r => { r with sp := 0xFFF8 })
      (fun t => t.getPair .hl == 0xFFFA && t.regs.flags.toByte == 0x00 && t.regs.sp == 0xFFF8 && t.cycles == 12) = true := by decide

theorem test_R215_negative :
    ends [0xF8, 0xFF] (withRegs fun r => { r with sp := 0x0000 })
      (fun t => t.getPair .hl == 0xFFFF && t.regs.flags.toByte == 0x00) = true := by decide

theorem test_R216_inc_rr :
    ends [0x13] (withRegs fun r => { r with d := 0x00, e := 0xFF })
      (fun t => t.getPair .de == 0x0100 && t.regs.flags.toByte == 0xB0 && t.cycles == 8) = true := by decide

theorem test_R217_dec_rr :
    ends [0x0B] (withRegs fun r => { r with b := 0x01, c := 0x00 })
      (fun t => t.getPair .bc == 0x00FF && t.regs.flags.toByte == 0xB0 && t.cycles == 8) = true := by decide

theorem test_R218_add_hl :
    ends [0x09] (withRegs fun r => { r with h := 0x8A, l := 0x23, b := 0x06, c := 0x05 })
      (fun t => t.getPair .hl == 0x9028 && t.regs.flags.toByte == 0xA0 && t.cycles == 8) = true := by decide

theorem test_R219_add_sp_e8 :
    ends [0xE8, 0x01] (withRegs fun r => { r with sp := 0x00FF })
      (fun t => t.regs.sp == 0x0100 && t.regs.flags.toByte == 0x30 && t.cycles == 16) = true := by decide

theorem test_R219_negative :
    ends [0xE8, 0xFF] (withRegs fun r => { r with sp := 0x0001 })
      (fun t => t.regs.sp == 0x0000 && t.regs.flags.toByte == 0x30) = true := by decide

theorem test_R230_rlca :
    ends [0x07] (withRegs fun r => { r with a := 0x85 })
      (fun t => t.regs.a == 0x0B && t.regs.flags.toByte == 0x10 && t.cycles == 4) = true := by decide

theorem test_R231_rrca :
    ends [0x0F] (withRegs fun r => { r with a := 0x3B })
      (fun t => t.regs.a == 0x9D && t.regs.flags.toByte == 0x10 && t.cycles == 4) = true := by decide

theorem test_R232_rla :
    ends [0x17] (withRegs fun r => { r with a := 0x95, flags := { z := false, n := false, h := false, c := true } })
      (fun t => t.regs.a == 0x2B && t.regs.flags.toByte == 0x10 && t.cycles == 4) = true := by decide

theorem test_R233_rra :
    ends [0x1F] (withRegs fun r => { r with a := 0x81, flags := { z := false, n := false, h := false, c := false } })
      (fun t => t.regs.a == 0x40 && t.regs.flags.toByte == 0x10 && t.cycles == 4) = true := by decide

theorem test_R235_rlc :
    ends [0xCB, 0x00] (withRegs fun r => { r with b := 0x85 })
      (fun t => t.regs.b == 0x0B && t.regs.flags.toByte == 0x10 && t.cycles == 8) = true := by decide

theorem test_R236_rlc_mHL :
    ends [0xCB, 0x06] (withRegs fun r => { r with h := 0xC0, l := 0x00 })
      (fun t => t.mem.read 0xC000 == 0x00 && t.regs.flags.toByte == 0x80 && t.cycles == 16) = true := by decide

theorem test_R237_rrc :
    ends [0xCB, 0x09] (withRegs fun r => { r with c := 0x01 })
      (fun t => t.regs.c == 0x80 && t.regs.flags.toByte == 0x10 && t.cycles == 8) = true := by decide

theorem test_R239_rl :
    ends [0xCB, 0x15] (withRegs fun r => { r with l := 0x80, flags := { z := false, n := false, h := false, c := false } })
      (fun t => t.regs.l == 0x00 && t.regs.flags.toByte == 0x90 && t.cycles == 8) = true := by decide

theorem test_R240_rl_mHL :
    ends [0xCB, 0x16] (State.store 0xC000 0x11 (withRegs fun r => { r with h := 0xC0, l := 0x00, flags := { z := false, n := false, h := false, c := false } }))
      (fun t => t.mem.read 0xC000 == 0x22 && t.regs.flags.toByte == 0x00 && t.cycles == 16) = true := by decide

theorem test_R241_rr :
    ends [0xCB, 0x1F] (withRegs fun r => { r with a := 0x01, flags := { z := false, n := false, h := false, c := false } })
      (fun t => t.regs.a == 0x00 && t.regs.flags.toByte == 0x90 && t.cycles == 8) = true := by decide

theorem test_R242_rr_mHL :
    ends [0xCB, 0x1E] (State.store 0xC000 0x8A (withRegs fun r => { r with h := 0xC0, l := 0x00, flags := { z := false, n := false, h := false, c := false } }))
      (fun t => t.mem.read 0xC000 == 0x45 && t.regs.flags.toByte == 0x00 && t.cycles == 16) = true := by decide

theorem test_R243_sla :
    ends [0xCB, 0x22] (withRegs fun r => { r with d := 0x80 })
      (fun t => t.regs.d == 0x00 && t.regs.flags.toByte == 0x90 && t.cycles == 8) = true := by decide

theorem test_R244_sla_mHL :
    ends [0xCB, 0x26] (State.store 0xC000 0xFF (withRegs fun r => { r with h := 0xC0, l := 0x00 }))
      (fun t => t.mem.read 0xC000 == 0xFE && t.regs.flags.toByte == 0x10 && t.cycles == 16) = true := by decide

theorem test_R245_sra :
    ends [0xCB, 0x2F] (withRegs fun r => { r with a := 0x8A })
      (fun t => t.regs.a == 0xC5 && t.regs.flags.toByte == 0x00 && t.cycles == 8) = true := by decide

theorem test_R246_sra_mHL :
    ends [0xCB, 0x2E] (State.store 0xC000 0x01 (withRegs fun r => { r with h := 0xC0, l := 0x00 }))
      (fun t => t.mem.read 0xC000 == 0x00 && t.regs.flags.toByte == 0x90 && t.cycles == 16) = true := by decide

theorem test_R247_swap :
    ends [0xCB, 0x37] (withRegs fun r => { r with a := 0xF1 })
      (fun t => t.regs.a == 0x1F && t.regs.flags.toByte == 0x00 && t.cycles == 8) = true := by decide

theorem test_R249_srl :
    ends [0xCB, 0x3F] (withRegs fun r => { r with a := 0x01 })
      (fun t => t.regs.a == 0x00 && t.regs.flags.toByte == 0x90 && t.cycles == 8) = true := by decide

theorem test_R250_srl_mHL :
    ends [0xCB, 0x3E] (State.store 0xC000 0xFF (withRegs fun r => { r with h := 0xC0, l := 0x00 }))
      (fun t => t.mem.read 0xC000 == 0x7F && t.regs.flags.toByte == 0x10 && t.cycles == 16) = true := by decide

theorem test_R251_bit :
    ends [0xCB, 0x7F] (withRegs fun r => { r with a := 0x80, flags := { z := false, n := false, h := false, c := true } })
      (fun t => t.regs.a == 0x80 && t.regs.flags.toByte == 0x30 && t.cycles == 8) = true := by decide

theorem test_R252_bit_mHL :
    ends [0xCB, 0x46] (State.store 0xC000 0xFE (withRegs fun r => { r with h := 0xC0, l := 0x00, flags := { z := false, n := false, h := false, c := false } }))
      (fun t => t.mem.read 0xC000 == 0xFE && t.regs.flags.toByte == 0xA0 && t.cycles == 12) = true := by decide

theorem test_R253_res :
    ends [0xCB, 0xBF] (withRegs fun r => { r with a := 0x80 })
      (fun t => t.regs.a == 0x00 && t.regs.flags.toByte == 0xB0 && t.cycles == 8) = true := by decide

theorem test_R254_res_mHL :
    ends [0xCB, 0x9E] (State.store 0xC000 0xFF (withRegs fun r => { r with h := 0xC0, l := 0x00 }))
      (fun t => t.mem.read 0xC000 == 0xF7 && t.regs.flags.toByte == 0xB0 && t.cycles == 16) = true := by decide

theorem test_R255_set :
    ends [0xCB, 0xDF] (withRegs fun r => { r with a := 0x80 })
      (fun t => t.regs.a == 0x88 && t.regs.flags.toByte == 0xB0 && t.cycles == 8) = true := by decide

theorem test_R256_set_mHL :
    ends [0xCB, 0xDE] (withRegs fun r => { r with h := 0xC0, l := 0x00 })
      (fun t => t.mem.read 0xC000 == 0x08 && t.regs.flags.toByte == 0xB0 && t.cycles == 16) = true := by decide

theorem test_R271_jp :
    ends [0xC3, 0x50, 0x01] (State.reset)
      (fun t => t.regs.pc == 0x0150 && t.cycles == 16) = true := by decide

theorem test_R272_jp_cc_not_taken :
    ends [0xCA, 0x00, 0xC1] (withRegs fun r => { r with flags := { z := false, n := false, h := false, c := false } })
      (fun t => t.regs.pc == 0xD003 && t.cycles == 12) = true := by decide

theorem test_R272_jp_cc_taken :
    ends [0xCA, 0x00, 0xC1] (withRegs fun r => { r with flags := { z := true, n := false, h := false, c := false } })
      (fun t => t.regs.pc == 0xC100 && t.cycles == 16) = true := by decide

theorem test_R273_jp_hl :
    ends [0xE9] (withRegs fun r => { r with h := 0xC2, l := 0x00 })
      (fun t => t.regs.pc == 0xC200 && t.cycles == 4) = true := by decide

theorem test_R274_jr :
    ends [0x18, 0xFE] (State.reset)
      (fun t => t.regs.pc == 0xD000 && t.cycles == 12) = true := by decide

theorem test_R275_jr_cc_taken :
    ends [0x20, 0xFA] (withRegs fun r => { r with flags := { z := false, n := false, h := false, c := false } })
      (fun t => t.regs.pc == 0xCFFC && t.cycles == 12) = true := by decide

theorem test_R275_jr_cc_not_taken :
    ends [0x20, 0xFA] (withRegs fun r => { r with flags := { z := true, n := false, h := false, c := false } })
      (fun t => t.regs.pc == 0xD002 && t.cycles == 8) = true := by decide

theorem test_R276_call :
    ends [0xCD, 0x34, 0x12] (State.reset)
      (fun t => t.mem.read 0xFFFD == 0xD0 && t.mem.read 0xFFFC == 0x03 && t.regs.sp == 0xFFFC && t.regs.pc == 0x1234 && t.cycles == 24) = true := by decide

theorem test_R277_call_cc_not_taken :
    ends [0xDC, 0x00, 0xC1] (withRegs fun r => { r with flags := { z := false, n := false, h := false, c := false } })
      (fun t => t.regs.pc == 0xD003 && t.regs.sp == 0xFFFE && t.cycles == 12) = true := by decide

theorem test_R277_call_cc_taken :
    ends [0xDC, 0x00, 0xC1] (withRegs fun r => { r with flags := { z := false, n := false, h := false, c := true } })
      (fun t => t.regs.pc == 0xC100 && t.regs.sp == 0xFFFC && t.cycles == 24) = true := by decide

theorem test_R278_ret :
    ends [0xC9] (State.store 0xFFFD 0xC0 (State.store 0xFFFC 0x03 (withRegs fun r => { r with sp := 0xFFFC })))
      (fun t => t.regs.pc == 0xC003 && t.regs.sp == 0xFFFE && t.cycles == 16) = true := by decide

theorem test_R279_ret_cc_not_taken :
    ends [0xC0] (withRegs fun r => { r with flags := { z := true, n := false, h := false, c := false } })
      (fun t => t.regs.pc == 0xD001 && t.regs.sp == 0xFFFE && t.cycles == 8) = true := by decide

theorem test_R279_ret_cc_taken :
    ends [0xC8] (State.store 0xFFFD 0xC0 (State.store 0xFFFC 0x03 (withRegs fun r => { r with flags := { z := true, n := false, h := false, c := false }, sp := 0xFFFC })))
      (fun t => t.regs.pc == 0xC003 && t.regs.sp == 0xFFFE && t.cycles == 20) = true := by decide

theorem test_R280_reti :
    ends [0xD9] (State.store 0xCFFF 0xC1 (State.store 0xCFFE 0x23 (withRegs fun r => { r with sp := 0xCFFE })))
      (fun t => t.regs.pc == 0xC123 && t.regs.sp == 0xD000 && t.ctl.ime == true && t.cycles == 16) = true := by decide

theorem test_R281_rst :
    ends [0xEF] (withRegs fun r => { r with sp := 0xD000 })
      (fun t => t.mem.read 0xCFFF == 0xD0 && t.mem.read 0xCFFE == 0x01 && t.regs.sp == 0xCFFE && t.regs.pc == 0x0028 && t.cycles == 16) = true := by decide

theorem test_R290_nop :
    ends [0x00] (State.reset)
      (fun t => t.regs.pc == 0xD001 && t.cycles == 4) = true := by decide

theorem test_R291_halt :
    ends [0x76] (State.reset)
      (fun t => t.ctl.halted == true && t.ctl.haltBug == false && t.regs.pc == 0xD001 && t.cycles == 4) = true := by decide

theorem test_R291_halt_bug :
    ends [0x76] { State.reset with ie := 0x01 }
      (fun t => t.ctl.halted == false && t.ctl.haltBug == true && t.regs.pc == 0xD001 && t.regs.sp == 0xFFFE && t.cycles == 4) = true := by decide

theorem test_R292_stop :
    ends [0x10, 0x00] (State.reset)
      (fun t => t.ctl.stopped == true && t.regs.pc == 0xD002 && t.cycles == 4) = true := by decide

theorem test_R293_di :
    ends [0xF3] (withCtl (fun c => { c with ime := true }) State.reset)
      (fun t => t.ctl.ime == false && t.cycles == 4) = true := by decide

theorem test_R294_ei :
    ends [0xFB] (State.reset)
      (fun t => t.ctl.eiPending == true && t.ctl.ime == false && t.cycles == 4) = true := by decide

theorem test_R294_ei_takes_effect :
    ends [0x00] (withCtl (fun c => { c with eiPending := true }) State.reset)
      (fun t => t.ctl.eiPending == false && t.ctl.ime == true && t.cycles == 4) = true := by decide

theorem test_R295_halt_bug_prefix :
    ends [0xCB] (withCtl (fun c => { c with haltBug := true }) (withRegs fun r => { r with e := 0x00 }))
      (fun t => t.regs.e == 0x02 && t.regs.pc == 0xD001 && t.cycles == 8) = true := by decide

theorem test_R296_illegal :
    ends [0xDD] (State.reset)
      (fun t => t.regs.pc == 0xD001 && t.regs.flags.toByte == 0xB0 && t.cycles == 4) = true := by decide

/-- A byte taken out of `ILLEGAL_OPCODES` is the fatal unknown opcode (45_system R297). -/
theorem test_R297_unknown :
    (match exec .illegal_DD { State.reset with cfg := { Config.default with illegalOpcodes := [] } } with
     | .fault r => r == .fatalUnknownOpcode 0xDD 0x0100
     | .next _ => false
     | .refused _ => false) = true := by decide

/-- The halt bug executes the next byte twice (45_system R291's example, second step). -/
theorem test_halt_bug_repeats :
    ends [0x04] (withCtl (fun c => { c with haltBug := true }) State.reset)
      (fun t => t.regs.b == 0x01 && t.regs.pc == 0xD000 && t.ctl.haltBug == false && t.cycles == 4) = true := by decide

/-! ### Interrupts, devices, bus -/

/-- Dispatch: the lowest bit first, PC pushed, `IME` and the `IF` bit cleared (95_test_vectors T5). -/
theorem test_dispatch_priority :
    ends [] (withCtl (fun c => { c with ime := true, halted := true }) { State.reset with ie := 0x1F, iflag := 0b10100 })
      (fun t => t.regs.pc == 0x0050 && t.iflag == 0b10000 && t.ctl.ime == false && t.ctl.halted == false &&
        t.mem.read 0xFFFD == 0xD0 && t.mem.read 0xFFFC == 0x00 && t.regs.sp == 0xFFFC && t.cycles == 20) = true := by decide

/-- Wake without service, then idle (60_exceptions R321, R322). -/
theorem test_wake_and_idle :
    ends [] (withCtl (fun c => { c with halted := true }) { State.reset with ie := 0x01 })
      (fun t => t.ctl.halted == false && t.regs.pc == 0xD000 && t.iflag == 0b00001 && t.cycles == 4) = true ∧
    ends [] (withCtl (fun c => { c with halted := true }) State.reset)
      (fun t => t.ctl.halted == true && t.regs.pc == 0xD000 && t.cycles == 4) = true := by decide

/-- A step replays its cycles: 4 ticks of every device (00_scope R1). -/
theorem test_step_replays :
    stepEnds State.reset (fun t => t.timer.systemCounter == 0xABD0 && t.ppu.cyclesRemaining == 76 && t.regs.pc == 0x0101) = true := by
  decide

/-- The host's calls at the head of the queue come before the step (00_scope R3, 60_exceptions R381). -/
theorem test_host_actions :
    stepEnds { State.reset with inputs := [[{ button := .a, pressed := true }], []] }
      (fun t => t.buttons.a && t.iflag == 0b10001 && t.inputs == [[]]) = true := by decide

/-- From power-on, `EI` with `IE` bit 0 set: the next step dispatches at once, so a `HALT` in its place has not run
(70_reset R410 item 1, 90_conflicts C2). -/
theorem test_first_ei_dispatches :
    ends [0x76] (withCtl (fun c => { c with eiPending := true }) { State.reset with ie := 0x01 })
      (fun t => t.regs.pc == 0x0040 && !t.ctl.haltBug && !t.ctl.halted && t.mem.read 0xFFFC == 0x00 && t.mem.read 0xFFFD == 0xD0) = true := by
  decide

/-- A stack in ROM silently loses the push (70_reset R410 item 3). -/
theorem test_push_into_rom_is_lost :
    ends [0xC5] { State.reset with regs := { State.reset.regs with sp := 0x4000 } }
      (fun t => t.read 0x3FFF == 0x00 && t.read 0x3FFE == 0x00 && t.regs.sp == 0x3FFE) = true := by decide

/-- Restoring a rejected snapshot changes nothing (70_reset R414). -/
theorem test_restore_rejected : State.reset.restore none = State.reset := by decide

/-- `withFetchWord` places an instruction that the very next step runs, from power-on. -/
theorem test_withFetchWord :
    stepEnds (State.reset.withFetchWord 8 0x3C) (fun t => t.regs.a == 0x02) = true ∧
    stepEnds (State.reset.withFetchWord 16 0xCB37) (fun t => t.regs.a == 0x10) = true ∧
    stepEnds (State.reset.withFetchWord 8 0xCB) (fun t => t.regs.b == 0x00 && t.cycles == 8) = true := by decide

/-- The overflow of TIMA, the delay, the reload and the interrupt (60_exceptions R342, R343). -/
def timerAt (c : Word) (tima : Byte) : State :=
  { State.reset with timer := { systemCounter := c, tima := tima, tma := 0x23, tac := 0b101, overflowPending := false, overflowDelay := 0 } }

theorem test_timer_overflow_then_reload :
    (timerAt 0x000F 0xFF).timerTick.timer.tima = 0x00 ∧ (timerAt 0x000F 0xFF).timerTick.timer.overflowPending = true ∧
    (timerAt 0x000F 0xFF).timerTick.timerTick.timer.tima = 0x23 ∧ (timerAt 0x000F 0xFF).timerTick.timerTick.iflag = 0b00101 := by
  decide

/-- A write to DIV can be the falling edge (60_exceptions R344). -/
theorem test_div_write_edge : ((timerAt 0x0008 0x41).write 0xFF04 0x77).timer.tima = 0x42 := by decide

/-- Reads at the edges of the regions of the address map (20_memory R50). -/
def mapped : State :=
  (([0x0000, 0x7FFF, 0x8000, 0x9FFF, 0xC000, 0xDFFF, 0xFE00, 0xFE9F, 0xFF7F, 0xFF80, 0xFFFE] : List Nat).foldl
    (fun s a => s.store a 0x5A) { State.reset with ie := 0x77, ppu := { State.reset.ppu with mode := .hBlank } })

theorem test_readMap_edges :
    mapped.read 0x0000 = 0x5A ∧ mapped.read 0x7FFF = 0x5A ∧ mapped.read 0x8000 = 0x5A ∧ mapped.read 0x9FFF = 0x5A ∧
    mapped.read 0xA000 = 0xFF ∧ mapped.read 0xBFFF = 0xFF ∧ mapped.read 0xC000 = 0x5A ∧ mapped.read 0xDFFF = 0x5A ∧
    mapped.read 0xE000 = 0x5A ∧ mapped.read 0xFDFF = 0x00 ∧ mapped.read 0xFE00 = 0x5A ∧ mapped.read 0xFE9F = 0x5A ∧
    mapped.read 0xFEA0 = 0xFF ∧ mapped.read 0xFEFF = 0xFF ∧ mapped.read 0xFF03 = 0x00 ∧ mapped.read 0xFF7F = 0x5A ∧
    mapped.read 0xFF80 = 0x5A ∧ mapped.read 0xFFFE = 0x5A ∧ mapped.read 0xFFFF = 0x77 := by decide

/-- OAM is blocked in modes 2 and 3 and in the DMA window; VRAM in mode 3 if the parameter says so (20_memory R63 to R65). -/
theorem test_blocking :
    State.read { mapped with ppu := { mapped.ppu with mode := .oamScan } } 0xFE00 = 0xFF ∧
    State.read { mapped with dmaBusy := 1 } 0xFE9F = 0xFF ∧
    State.read { mapped with ppu := { mapped.ppu with mode := .drawing } } 0x8000 = 0x5A ∧
    State.read { mapped with ppu := { mapped.ppu with mode := .drawing }, cfg := { Config.default with vramAccessMode := .vramMode3Blocked } } 0x8000 = 0xFF := by
  decide

/-- The OAM copy from work RAM (20_memory R80). -/
theorem test_dma_copies : ((State.reset.store 0xC09F 0x42).write 0xFF46 0xC0).mem.read 0xFE9F = 0x42 := by decide

/-- A write to STAT keeps bits 2..0, LY goes to 0 (20_memory R72, R75). -/
theorem test_lcd_writes :
    (State.reset.write 0xFF41 0xFF).lcd.stat = 0xFE ∧
    (State.write 0xFF44 0x99 { State.reset with lcd := { State.reset.lcd with ly := 0x50 } }).lcd.ly = 0x00 := by decide

/-- The entry to VBlank requests interrupts 0 and 1, `FrameReady` fires (60_exceptions R362, R367). -/
theorem test_vblank_entry :
    let s : State := State.ppuTick { State.reset with
      ppu := { State.reset.ppu with mode := .hBlank, cyclesRemaining := 1 }
      lcd := { State.reset.lcd with ly := 143, stat := 0x90, lyc := 0xFF }, iflag := 0 }
    s.ppu.mode = .vBlank ∧ s.lcd.ly = 144 ∧ s.iflag = 0b00011 ∧ s.lcd.stat = 0x91 ∧ s.frameCount = 1 := by decide

/-- A sprite covers a background pixel unless its priority bit gives way to a non-zero one (60_exceptions R376). -/
def spriteAt (attr : Byte) : State :=
  ([(0xFE00, 16), (0xFE01, 8), (0xFE02, 1), (0xFE03, attr), (0x8010, 0x80), (0x9800, 2), (0x8020, 0x80), (0x8021, 0x80)] :
    List (Nat × Byte)).foldl (fun s c => s.store c.1 c.2)
    { State.reset with lcd := { State.reset.lcd with lcdc := 0x93, bgp := 0xE4, obp0 := 0xE4, obp1 := 0x1B } }

theorem test_sprite_priority :
    (spriteAt 0x00).pixelShade 0 0 = 1 ∧ (spriteAt 0x10).pixelShade 0 0 = 2 ∧ (spriteAt 0x80).pixelShade 0 0 = 3 ∧
    (spriteAt 0x20).pixelShade 0 0 = 3 ∧ (spriteAt 0x20).pixelShade 0 7 = 1 := by decide

/-- The joypad's low nibble and the press edge (60_exceptions R380, R381). -/
theorem test_joypad :
    State.read { State.reset with joySel := 0b10, buttons := { State.reset.buttons with right := true, a := true } } 0xFF00 = 0xEE ∧
    (State.setButton { button := .a, pressed := true } { State.reset with joySel := 0b10 }).iflag = 0b00001 ∧
    (State.setButton { button := .left, pressed := true } { State.reset with joySel := 0b10 }).iflag = 0b10001 := by decide

/-! ### Witnesses: what the statements' hypotheses ask can be met -/

theorem witness_DecodeInvertsEncode :
    Instr.wellFormed (.jp_a16 0xC123) = true ∧ Instr.wellFormed .swap_mHL = true := by decide

theorem witness_EncodeInvertsDecode : decode [0xC3, 0x23, 0xC1, 0x00] = .ok (.jp_a16 0xC123, [0x00]) := rfl

theorem witness_DecimalArithmetic : isBcd (withRegs fun r => { r with a := 0x99 }).regs.a ∧ isBcd 0x00 ∧ isBcd 0x99 := by
  unfold isBcd
  decide

/-- Stacks at both ends of work RAM, in high RAM, and where the two bytes lie in work RAM and echo RAM. -/
theorem witness_PopGivesBackPush :
    (∀ sp : Word, sp = 0xC002 ∨ sp = 0xE000 ∨ sp = 0xE001 ∨ sp = 0xFFFF ∨ sp = 0xFF82 →
      let s : State := withRegs fun r => { r with sp := sp }
      s.storesByte (s.regs.sp - 1) = true ∧ s.storesByte (s.regs.sp - 2) = true) := by
  intro sp h
  rcases h with rfl | rfl | rfl | rfl | rfl <;> decide

/-- Both cases of `HALT`. -/
theorem witness_ControlFlipFlops :
    (State.reset.ctl.ime = false ∧ (BitVec.extractLsb' 0 5 (0x01 : Byte) &&& State.reset.iflag) ≠ 0) ∧
    ¬ (State.reset.ctl.ime = false ∧ (BitVec.extractLsb' 0 5 State.reset.ie &&& State.reset.iflag) ≠ 0) := by decide

theorem witness_IllegalOpcodes :
    (0xD3, Instr.illegal_D3) ∈ Instr.illegalRows ∧ (0xFD, Instr.illegal_FD) ∈ Instr.illegalRows ∧
    (0xD3 : Byte) ∈ State.reset.cfg.illegalOpcodes ∧ (0xD3 : Byte) ∉ ([] : List Byte) := by decide

theorem witness_CbPrefix :
    (match exec .prefix_CB (State.setPc 0xD000 (State.reset.store 0xD000 0x46)) with
     | .next t => t.cycles == 12 && t.regs.pc == 0xD001
     | .fault _ => false
     | .refused _ => false) = true := by decide

/-- Power-on meets every hypothesis: the bytes at `PC` are `NOP`. The second state has an interrupt pending and `IME` 0. -/
theorem witness_StepRunsDecodedInstruction :
    let u : State := State.reset.hostActions.promoteEi
    let v : State := State.promoteEi (State.hostActions { State.reset with ie := 0x01 })
    (u.ctl.halted = false ∧ u.ctl.haltBug = false ∧ u.pending = 0) ∧ (v.ctl.halted = false ∧ v.pending ≠ 0 ∧ v.ctl.ime = false) ∧
    reads [u.read u.regs.pc, u.read (u.regs.pc + 1), u.read (u.regs.pc + 2)] = some (.nop, [0x00, 0x00]) := by decide

theorem witness_HaltBugRepeatsByte :
    let s : State := withCtl (fun c => { c with haltBug := true }) State.reset
    let u : State := s.hostActions.promoteEi
    u.ctl.halted = false ∧ u.ctl.haltBug = true ∧ u.pending = 0 ∧
    reads [u.read u.regs.pc, u.read u.regs.pc, u.read (u.regs.pc + 1)] = some (.nop, [0x00, 0x00]) := by decide

/-- One state for each of the four clauses, in the statement's order; the first meets it through `EiPending`. -/
theorem witness_StepAlgorithm :
    (let s : State := withCtl (fun c => { c with eiPending := true }) { State.reset with ie := 0x01 }
     s.ie.extractLsb' 0 5 &&& s.iflag ≠ 0 ∧ (s.ctl.ime || s.ctl.eiPending) = true) ∧
    (let s : State := withCtl (fun c => { c with halted := true }) { State.reset with ie := 0x01 }
     s.ie.extractLsb' 0 5 &&& s.iflag ≠ 0 ∧ (s.ctl.ime || s.ctl.eiPending) = false ∧ s.ctl.halted = true) ∧
    (let s : State := withCtl (fun c => { c with halted := true }) State.reset
     s.ie.extractLsb' 0 5 &&& s.iflag = 0 ∧ s.ctl.halted = true) ∧
    (State.reset.ie.extractLsb' 0 5 &&& State.reset.iflag = 0 ∧ State.reset.ctl.halted = false) := by decide

theorem witness_ReplayIsPerDevice : ends [0x00] State.reset (fun t => t.cycles == 4) = true := by decide

/-- Every region's boundary addresses fall under one clause each. -/
theorem witness_ReadMap :
    (0x7FFF : Word).toNat ≤ 0x7FFF ∧ 0x8000 ≤ (0x8000 : Word).toNat ∧ (0x9FFF : Word).toNat ≤ 0x9FFF ∧
    0xA000 ≤ (0xA000 : Word).toNat ∧ (0xBFFF : Word).toNat ≤ 0xBFFF ∧ 0xC000 ≤ (0xC000 : Word).toNat ∧
    (0xDFFF : Word).toNat ≤ 0xDFFF ∧ 0xE000 ≤ (0xE000 : Word).toNat ∧ (0xFDFF : Word).toNat ≤ 0xFDFF ∧
    0xFE00 ≤ (0xFE00 : Word).toNat ∧ (0xFE9F : Word).toNat ≤ 0xFE9F ∧ 0xFEA0 ≤ (0xFEA0 : Word).toNat ∧
    (0xFEFF : Word).toNat ≤ 0xFEFF ∧ ioTable.lookup 0xFF03 = none ∧ ioTable.lookup 0xFF7F = none ∧
    0xFF80 ≤ (0xFF80 : Word).toNat ∧ (0xFFFE : Word).toNat ≤ 0xFFFE ∧ (0xFFFF : Word).toNat = 0xFFFF := by decide

theorem witness_StoreFrame :
    ([0x0000, 0x7FFF, 0xA000, 0xBFFF, 0xFE00, 0xFE9F, 0xFEA0, 0xFEFF] : List Word).all State.reset.dropsWrite = true ∧
    ([0x8000, 0x9FFF, 0xC000, 0xDFFF, 0xE000, 0xFDFF, 0xFF03, 0xFF7F, 0xFF80, 0xFFFE] : List Word).all
      State.reset.storesByte = true ∧
    ([0xFE00, 0xFE9F] : List Word).all mapped.storesByte = true ∧
    (let s : State := { State.reset with cfg := { State.reset.cfg with mapper := .external 7 } }
     s.cfg.mapper = .external 7 ∧ (0x7FFF : Word).toNat ≤ 0x7FFF ∧ 0xA000 ≤ (0xA000 : Word).toNat ∧
     (0xBFFF : Word).toNat ≤ 0xBFFF) := by decide

/-- The three transitions of LCDC bit 7, from power-on (LCDC 0x91) and with the LCD off. -/
theorem witness_LcdSwitch :
    State.reset.lcd.lcdc.getLsbD 7 = (0x80 : Byte).getLsbD 7 ∧
    (State.reset.lcd.lcdc.getLsbD 7 = true ∧ (0x7F : Byte).getLsbD 7 = false) ∧
    ((0x11 : Byte).getLsbD 7 = false ∧ (0x91 : Byte).getLsbD 7 = true) := by decide

theorem witness_OamDma : 0 < 160 ∧ 159 < 160 ∧ 0xFDFF < 0xFE00 ∧ 0xFEA0 ≤ 0xFEA0 := by decide

theorem witness_InterruptController : (0b10000#5 : BitVec 5) ≠ 0 ∧ 4 < 5 ∧ (highestPendingBit 0b10000).val = 4 := by decide

/-- The second clause up to the last tick before the overflow, for every frequency. -/
theorem witness_TimerPeriod :
    ∀ r ∈ ([(0b100, 1024), (0b101, 16), (0b110, 64), (0b111, 256)] : List (BitVec 3 × Nat)),
      let s : State := { State.reset with timer := { (timerAt 0x0003 0xFE).timer with tac := r.1 } }
      s.timer.tac.getLsbD 2 = true ∧ s.timer.overflowPending = false ∧
      s.timer.tima.toNat + (s.timer.systemCounter.toNat % r.2 + (2 * r.2 - 4)) / r.2 = 0xFF := by decide

/-- The three cases of a tick: LCD off, counting, and the end of each mode's time. -/
theorem witness_PpuTransitions :
    (0x11 : Byte).getLsbD 7 = false ∧ State.reset.lcd.lcdc.getLsbD 7 = true ∧ 2 ≤ State.reset.ppu.cyclesRemaining ∧
    (∀ m ∈ [Mode.hBlank, .vBlank, .oamScan, .drawing],
      let s : State := { State.reset with ppu := { State.reset.ppu with mode := m, cyclesRemaining := 1 } }
      s.lcd.lcdc.getLsbD 7 = true ∧ s.ppu.cyclesRemaining ≤ 1) := by decide

/-- Power-on is the first cycle of a frame. -/
theorem witness_FrameSchedule :
    State.reset.lcd.lcdc.getLsbD 7 = true ∧ State.reset.ppu.mode = .oamScan ∧ State.reset.lcd.ly = 0 ∧
    State.reset.ppu.cyclesRemaining = 80 ∧ State.reset.cfg.spriteDrawPenalty ≤ 20 := by decide

theorem witness_RenderLineFrame : 0 < 160 ∧ 159 < 160 ∧ (1 : Nat) ≠ 0 := by decide

/-- Sprites off; and eleven sprites on line 0, of which the eleventh covers it and is left out. -/
def elevenSprites : State :=
  (List.range 11).foldl (fun s i => s.store (0xFE00 + 4 * i) 16) { State.reset with lcd := { State.reset.lcd with lcdc := 0x93 } }

theorem witness_SpriteSelection :
    (State.reset.lcd.lcdc.getLsbD 1 = false ∧ State.reset.cfg.lcdcGatesBgObj = true) ∧
    elevenSprites.lcd.lcdc.getLsbD 1 = true ∧
    ((elevenSprites.mem.read (0xFE00 + 4 * 10)).toNat : Int) - 16 ≤ 0 ∧ 10 ∉ elevenSprites.selectSprites 0 ∧
    elevenSprites.selectSprites 0 = [0, 1, 2, 3, 4, 5, 6, 7, 8, 9] := by decide

/-- A column that no sprite colors, and one that the only sprite of the line decides. -/
theorem witness_SpritePriority :
    (spriteAt 0x00).spriteOrder 0 = [] ++ 0 :: [] ∧ (spriteAt 0x00).spriteId 0 0 0 ≠ 0 ∧
    (spriteAt 0x00).spriteId 0 1 0 = 0 ∧
    (∀ i ∈ (spriteAt 0x00).spriteOrder 0, (spriteAt 0x00).spriteId 0 1 i = 0) := by decide

/-- Another button; and a queue of each shape. In the last, both calls of the head list land and the rest stays. -/
theorem witness_Joypad :
    Button.left ≠ Button.right ∧ State.reset.inputs = [] ∧
    (let s : State := { State.reset with inputs := [[], [⟨.b, true⟩]] }
     s.inputs = [] :: [[⟨.b, true⟩]]) ∧
    (let s : State := { State.reset with inputs := [[⟨.a, true⟩, ⟨.left, true⟩], [⟨.b, true⟩]] }
     s.inputs = (⟨.a, true⟩ :: [⟨.left, true⟩]) :: [[⟨.b, true⟩]] ∧ s.hostActions.buttons.a = true ∧
     s.hostActions.buttons.left = true ∧ s.hostActions.buttons.b = false ∧ s.hostActions.inputs = [[⟨.b, true⟩]]) := by decide

/-- Power-on meets the invariant's decidable parts, and has a next state. -/
theorem witness_StepKeepsInvariant :
    Memory.wf State.reset.mem ∧ FrameBuffer.wf State.reset.fb ∧
    State.reset.lcd.stat.extractLsb' 0 2 = State.reset.ppu.mode.code ∧ State.reset.lcd.ly.toNat ≤ 143 ∧
    172 ≤ State.reset.ppu.drawLen ∧ stepEnds State.reset (fun _ => true) = true := by decide

theorem witness_StepNeverStops : ∀ r ∈ Instr.illegalRows, r.1 ∈ State.reset.cfg.illegalOpcodes := by decide

theorem witness_StepNeverChanges :
    stepEnds (withCtl (fun c => { c with stopped := true }) State.reset) (fun t => t.ctl.stopped) = true ∧
    State.reset.cfg.mapper = .noMapper ∧ (0x7FFF : Word).toNat ≤ 0x7FFF := by decide

theorem witness_OnlyFlagWritersChangeFlags :
    ¬ Instr.writesFlags .nop ∧ exec .nop State.reset = .next { State.reset with cycles := 4 } := by
  refine ⟨?_, rfl⟩
  rintro (⟨op, x, h⟩ | ⟨op, n, h⟩ | ⟨x, h⟩ | ⟨x, h⟩ | h | ⟨p, h⟩ | ⟨e, h⟩ | ⟨e, h⟩ | ⟨op, x, h⟩ | ⟨b, x, h⟩)
  · cases op <;> rcases x with r | _ <;> first | cases h | (cases r <;> cases h)
  · cases op <;> cases h
  · rcases x with r | _ <;> first | cases h | (cases r <;> cases h)
  · rcases x with r | _ <;> first | cases h | (cases r <;> cases h)
  · simp at h
  · cases p <;> cases h
  · cases h
  · cases h
  · cases op <;> rcases x with r | _ <;> first | cases h | (cases r <;> cases h)
  · fin_cases b <;> rcases x with r | _ <;> first | cases h | (cases r <;> cases h)

theorem witness_WritersOfControlState :
    ¬ Instr.writesCtl .nop ∧ ¬ Instr.writesPc .nop ∧ ¬ Instr.writesSp .nop := by
  refine ⟨?_, ?_, ?_⟩
  · rintro (h | ⟨pad, h⟩)
    · simp at h
    · cases h
  · rintro (⟨a, h⟩ | ⟨cc, a, h⟩ | ⟨e, h⟩ | ⟨cc, e, h⟩ | ⟨a, h⟩ | ⟨cc, a, h⟩ | ⟨cc, h⟩ | ⟨n, h⟩ | h)
    · cases h
    · cases cc <;> cases h
    · cases h
    · cases cc <;> cases h
    · cases h
    · cases cc <;> cases h
    · cases cc <;> cases h
    · fin_cases n <;> cases h
    · simp at h
  · rintro (⟨a, h⟩ | ⟨e, h⟩ | ⟨p, h⟩ | ⟨p, h⟩ | ⟨a, h⟩ | ⟨cc, a, h⟩ | ⟨cc, h⟩ | ⟨n, h⟩ | h)
    · cases h
    · cases h
    · cases p <;> cases h
    · cases p <;> cases h
    · cases h
    · cases cc <;> cases h
    · cases cc <;> cases h
    · fin_cases n <;> cases h
    · simp at h


end Sys2Proof.Tests
end

section
/-! PROOFS. The replay of a step's cycles (00_scope R1, R2). A tick of the PPU neither reads nor writes the timer and the
DMA window, and only adds bits to `IF`; so the three devices' ticks commute, and `n` cycles are `n` ticks of each. -/

namespace Sys2Proof.Machine

/-- The PPU's countdown one cycle on (60_exceptions R361). -/
def State.ppuCounted (s : State) : State :=
  { s with ppu := { s.ppu with cyclesRemaining := s.ppu.cyclesRemaining - 1 } }

/-- The end of the mode the PPU is in (60_exceptions R365 to R368). -/
def State.ppuModeEnd (s : State) : State :=
  match s.ppu.mode with
  | .oamScan => s.endOamScan
  | .drawing => s.endDrawing
  | .hBlank => s.endHBlank
  | .vBlank => s.endVBlankLine

/-- A tick of the PPU in these two parts. -/
theorem ppuTick_eq (s : State) :
    s.ppuTick = if s.lcdOn then if s.ppuCounted.ppu.cyclesRemaining = 0 then s.ppuCounted.ppuModeEnd else s.ppuCounted
      else s := rfl

/-- The state with another timer and DMA window, and `IF` bits added: all that the ticks of the other two devices write. -/
def State.besidePpu (t : TimerState) (k : BitVec 5) (d : Nat) (s : State) : State :=
  { s with timer := t, iflag := s.iflag ||| k, dmaBusy := d }

section
variable (t : TimerState) (k : BitVec 5) (d : Nat)

theorem requestWhen_besidePpu (b : Bool) (id : Fin 5) (s : State) :
    State.requestWhen b id (s.besidePpu t k d) = (s.requestWhen b id).besidePpu t k d := by
  cases b with
  | false => rfl
  | true =>
    have h : s.iflag ||| k ||| 1#5 <<< id.val = s.iflag ||| 1#5 <<< id.val ||| k := by
      rw [BitVec.or_assoc, BitVec.or_comm k, BitVec.or_assoc]
    simp only [requestWhen_eq, State.besidePpu, if_true, h]

theorem evalCoincidence_besidePpu (s : State) :
    (s.besidePpu t k d).evalCoincidence = s.evalCoincidence.besidePpu t k d := by
  unfold State.evalCoincidence
  rw [← requestWhen_besidePpu]
  rfl

theorem enterMode_besidePpu (m : Mode) (n : Nat) (s : State) :
    State.enterMode m n (s.besidePpu t k d) = (s.enterMode m n).besidePpu t k d := by
  unfold State.enterMode
  rw [← evalCoincidence_besidePpu, ← requestWhen_besidePpu, ← requestWhen_besidePpu]
  rfl

/-- The recursive parts of the renderer read OAM, VRAM and the LCD registers only. -/
theorem spriteOrder_besidePpu (line : Nat) (s : State) :
    (s.besidePpu t k d).spriteOrder line = s.spriteOrder line := by
  have hins : ∀ (i : Nat) (l : List Nat), (s.besidePpu t k d).insertSprite i l = s.insertSprite i l := by
    intro i l
    induction l with
    | nil => rfl
    | cons j l ih =>
      unfold State.insertSprite
      rw [ih]
      rfl
  unfold State.spriteOrder
  simp only [hins]
  rfl

theorem spriteShade_besidePpu (line x : Nat) (bg : Pixel) (order : List Nat) (s : State) :
    (s.besidePpu t k d).spriteShade line x bg order = s.spriteShade line x bg order := by
  induction order with
  | nil => rfl
  | cons i order ih =>
    unfold State.spriteShade
    rw [ih]
    rfl

theorem renderedLine_besidePpu (line : Nat) (s : State) :
    (s.besidePpu t k d).renderedLine line = s.renderedLine line := by
  unfold State.renderedLine
  simp only [spriteOrder_besidePpu, spriteShade_besidePpu]
  rfl

theorem renderLine_besidePpu (line : Nat) (s : State) :
    (s.besidePpu t k d).renderLine line = (s.renderLine line).besidePpu t k d := by
  rw [renderLine_eq, renderLine_eq, renderedLine_besidePpu]
  rfl

theorem endOamScan_besidePpu (s : State) :
    (s.besidePpu t k d).endOamScan = s.endOamScan.besidePpu t k d := by
  unfold State.endOamScan
  dsimp only
  rw [← enterMode_besidePpu]
  rfl

theorem endDrawing_besidePpu (s : State) :
    (s.besidePpu t k d).endDrawing = s.endDrawing.besidePpu t k d := by
  unfold State.endDrawing
  rw [← enterMode_besidePpu, ← renderLine_besidePpu]
  rfl

theorem endHBlank_besidePpu (s : State) :
    (s.besidePpu t k d).endHBlank = s.endHBlank.besidePpu t k d := by
  unfold State.endHBlank
  rw [apply_ite (State.besidePpu t k d), ← enterMode_besidePpu, ← enterMode_besidePpu]
  rfl

theorem endVBlankLine_besidePpu (s : State) :
    (s.besidePpu t k d).endVBlankLine = s.endVBlankLine.besidePpu t k d := by
  unfold State.endVBlankLine
  rw [apply_ite (State.besidePpu t k d), ← enterMode_besidePpu, ← evalCoincidence_besidePpu]
  rfl

theorem ppuModeEnd_besidePpu (s : State) :
    (s.besidePpu t k d).ppuModeEnd = s.ppuModeEnd.besidePpu t k d := by
  unfold State.ppuModeEnd
  rw [show (s.besidePpu t k d).ppu = s.ppu from rfl]
  cases s.ppu.mode with
  | oamScan => exact endOamScan_besidePpu t k d s
  | drawing => exact endDrawing_besidePpu t k d s
  | hBlank => exact endHBlank_besidePpu t k d s
  | vBlank => exact endVBlankLine_besidePpu t k d s

/-- The PPU's tick does not see the other two devices' state, nor the `IF` bits they request. -/
theorem ppuTick_besidePpu (s : State) :
    (s.besidePpu t k d).ppuTick = s.ppuTick.besidePpu t k d := by
  rw [ppuTick_eq, ppuTick_eq, apply_ite (State.besidePpu t k d), apply_ite (State.besidePpu t k d),
    ← ppuModeEnd_besidePpu]
  rfl

end

/-- The timer's tick is such a change, fixed by the timer and the launch parameters. -/
theorem timerTick_eq_besidePpu (s : State) :
    s.timerTick = s.besidePpu (s.timer.reloadStep.1.countStep s.cfg.timaReloadDelay)
      (if s.timer.reloadStep.2 then 4#5 else 0#5) s.dmaBusy := by
  rw [timerTick_eq]
  cases s.timer.reloadStep.2 <;> simp [State.besidePpu]

/-- So is the DMA countdown's, fixed by the window. -/
theorem dmaTick_eq_besidePpu (s : State) : s.dmaTick = s.besidePpu s.timer 0#5 (s.dmaBusy - 1) := by
  simp [State.dmaTick, State.besidePpu]

/-- A tick of the PPU leaves what the other two devices read alone. -/
theorem ppuTick_timer_cfg_dmaBusy (s : State) :
    s.ppuTick.timer = s.timer ∧ s.ppuTick.cfg = s.cfg ∧ s.ppuTick.dmaBusy = s.dmaBusy := by
  obtain ⟨p, l, f, b, n, -, h⟩ := ppuTick_cases s
  rw [h]
  exact ⟨rfl, rfl, rfl⟩

theorem timerTick_commute_ppuTick : Function.Commute State.timerTick State.ppuTick := by
  intro s
  obtain ⟨ht, hc, hd⟩ := ppuTick_timer_cfg_dmaBusy s
  rw [timerTick_eq_besidePpu, timerTick_eq_besidePpu, ppuTick_besidePpu, ht, hc, hd]

theorem dmaTick_commute_ppuTick : Function.Commute State.dmaTick State.ppuTick := by
  intro s
  obtain ⟨ht, -, hd⟩ := ppuTick_timer_cfg_dmaBusy s
  rw [dmaTick_eq_besidePpu, dmaTick_eq_besidePpu, ppuTick_besidePpu, ht, hd]

theorem dmaTick_commute_timerTick : Function.Commute State.dmaTick State.timerTick := by
  intro s
  rw [timerTick_eq, timerTick_eq]
  rfl

theorem replay_eq_iterate (n : Nat) (s : State) : s.replay n = State.tickDevices^[n] s := by
  induction n generalizing s with
  | zero => rfl
  | succ n ih => exact ih s.tickDevices

/-- The order of the three inside a cycle cannot be observed (00_scope R2). -/
theorem iterate_tickDevices (n : Nat) :
    State.tickDevices^[n] = State.dmaTick^[n] ∘ State.timerTick^[n] ∘ State.ppuTick^[n] := by
  have h : State.tickDevices = State.dmaTick ∘ State.timerTick ∘ State.ppuTick := rfl
  rw [h, (dmaTick_commute_timerTick.comp_right dmaTick_commute_ppuTick).comp_iterate,
    timerTick_commute_ppuTick.comp_iterate]

theorem replay_dmaBusy (n : Nat) (s : State) : (s.replay n).dmaBusy = s.dmaBusy - n := by
  induction n generalizing s with
  | zero => rfl
  | succ n ih =>
    calc (s.tickDevices.replay n).dmaBusy = s.dmaBusy - 1 - n := by rw [ih, tickDevices_dmaBusy]
      _ = s.dmaBusy - (n + 1) := by omega

theorem dmaTick_eq_ite (s : State) :
    s.dmaTick = { s with dmaBusy := if 0 < s.dmaBusy then s.dmaBusy - 1 else s.dmaBusy } := by
  have h : (if 0 < s.dmaBusy then s.dmaBusy - 1 else s.dmaBusy) = s.dmaBusy - 1 := by split <;> omega
  rw [State.dmaTick, h]

/-- The answer of `Step()` with the cycles it returned replayed into the devices (00_scope R1). -/
def Result.replayed : Result → Result
  | .next t => .next (t.replay t.cycles)
  | .fault r => .fault r
  | .refused r => .refused r

theorem step_eq_replayed (s : State) : step s = Result.replayed s.hostActions.cpuStep := rfl

theorem step_of_cpuStep {s : State} {r : Result} (h : s.hostActions.cpuStep = r) : step s = r.replayed :=
  (step_eq_replayed s).trans (congrArg Result.replayed h)

/-- Settles O36: the three ticks commute, so iterating a cycle is iterating each device's tick by itself. -/
theorem replayIsPerDevice : Obligations.ReplayIsPerDevice := by
  refine ⟨fun _ _ => step_of_cpuStep, fun _ _ => rfl, dmaTick_eq_ite, fun s n => ⟨?_, replay_dmaBusy n s⟩⟩
  exact (replay_eq_iterate n s).trans (congrFun (iterate_tickDevices n) s)

end Sys2Proof.Machine
end

section
/-! PROOFS. The step that fetches and executes one instruction (60_exceptions R318, R323). -/

namespace Sys2Proof.Machine

theorem afterOpcodeFetch_of_not_haltBug {s : State} (h : s.ctl.haltBug = false) :
    s.afterOpcodeFetch = s.setPc (s.regs.pc + 1) := by
  rw [State.afterOpcodeFetch, if_neg (by simp [h])]

@[simp] theorem setPc_read (v : Word) (s : State) (a : Word) : (s.setPc v).read a = s.read a := rfl

/-- Without the halt bug the fetch reads the opcode and the two bytes after it. -/
theorem instructionBytes_of_not_haltBug {s : State} (h : s.ctl.haltBug = false) :
    s.instructionBytes = [s.read s.regs.pc, s.read (s.regs.pc + 1), s.read (s.regs.pc + 2)] := by
  have hpc : s.regs.pc + 1 + 1 = s.regs.pc + 2 := by rw [BitVec.add_assoc]; rfl
  rw [State.instructionBytes, afterOpcodeFetch_of_not_haltBug h, setPc_regs_pc, hpc, setPc_read, setPc_read]

theorem fetchInstr_of_decode {s : State} {i : Instr} {rest : List Byte} (h : decode s.instructionBytes = .ok (i, rest)) :
    s.fetchInstr = .ok (i, s.afterOpcodeFetch.setPc (s.afterOpcodeFetch.regs.pc + BitVec.ofNat 16 (2 - rest.length))) := by
  rw [State.fetchInstr, h]

/-- With no halt bug the fetch leaves `PC` past all the bytes the instruction was read from. -/
theorem fetchInstr_of_not_haltBug {s : State} {i : Instr} {rest : List Byte} (hb : s.ctl.haltBug = false)
    (h : decode [s.read s.regs.pc, s.read (s.regs.pc + 1), s.read (s.regs.pc + 2)] = .ok (i, rest)) :
    s.fetchInstr = .ok (i, s.setPc (s.regs.pc + BitVec.ofNat 16 (3 - rest.length))) := by
  have hlen : 3 - rest.length = 1 + (2 - rest.length) := by
    have : rest.length ≤ 2 := decode_rest_length h
    omega
  have hpc : s.regs.pc + 1 + BitVec.ofNat 16 (2 - rest.length) = s.regs.pc + BitVec.ofNat 16 (3 - rest.length) := by
    rw [hlen, BitVec.ofNat_add, ← BitVec.add_assoc]
    rfl
  rw [← instructionBytes_of_not_haltBug hb] at h
  rw [fetchInstr_of_decode h, afterOpcodeFetch_of_not_haltBug hb, setPc_regs_pc, hpc]
  rfl

/-- Step 5 is reached when the CPU is not halted and no interrupt is to be dispatched (60_exceptions R318). -/
theorem cpuAct_eq_runInstruction {s : State} (hh : s.ctl.halted = false) (hi : s.pending = 0 ∨ s.ctl.ime = false) :
    s.cpuAct = s.runInstruction := by
  have hd : ¬(s.pending ≠ 0 ∧ s.ctl.ime = true) := by
    rcases hi with h | h <;> simp [h]
  have hn : ¬s.ctl.halted = true := by simp [hh]
  rw [State.cpuAct, if_neg hd, if_neg fun h => hn h.2, if_neg hn]

theorem runInstruction_of_fetch {s t : State} {i : Instr} (h : s.fetchInstr = .ok (i, t)) : s.runInstruction = exec i t := by
  rw [State.runInstruction, h]

/-- Settles O33: the conditions select step 5 of `Step()`, whose fetch decodes the three bytes at `PC`. -/
theorem stepRunsDecodedInstruction : Obligations.StepRunsDecodedInstruction := by
  intro s i rest u pc hh hb hi hd
  have h : s.hostActions.cpuStep = exec i (u.setPc (pc + BitVec.ofNat 16 (3 - rest.length))) :=
    (cpuAct_eq_runInstruction hh hi).trans (runInstruction_of_fetch (fetchInstr_of_not_haltBug hb hd))
  exact step_of_cpuStep h

end Sys2Proof.Machine
end

section
/-! PROOFS. Who may write what: an instruction's effect is made of writes of 8-bit registers, bus writes and the cycle
count, and of writes of the flags, `PC`, `SP` and the control flip-flops only where the tables of 10_state name the
instruction. -/

namespace Sys2Proof.Machine

/-- The cycle counts of instructions (70_reset R429). -/
def instrCycles : List Nat := [4, 8, 12, 16, 20, 24]

/-- `P` is kept by every part of instruction `i`'s effect, where `i` writes the flags, `PC`, `SP` or a control flip-flop
only if it stands in the table of their writers; and `Q` holds where `P` does once the cycles are counted. -/
structure KeptBy (i : Instr) (P Q : State → Prop) : Prop where
  reg : ∀ s r v, P s → P (s.setReg r v)
  write : ∀ s a v, P s → P (s.write a v)
  flags : i.writesFlags → ∀ s f, P s → P (s.setFlags f)
  pc : i.writesPc → ∀ s v, P s → P (s.setPc v)
  sp : i.writesSp → ∀ s v, P s → P (s.setSp v)
  ctl : i.writesCtl → ∀ s c, P s → P { s with ctl := c }
  finish : ∀ s n, n ∈ instrCycles → P s → Q { s with cycles := n }

theorem formCycles_mem {m n : Nat} (hm : m ∈ instrCycles) (hn : n ∈ instrCycles) (x : Operand8) :
    formCycles m n x ∈ instrCycles := by
  cases x
  · exact hm
  · exact hn

namespace KeptBy

variable {i : Instr} {P Q : State → Prop} {s : State} (k : KeptBy i P Q)
include k

theorem setFlags (f : Flags) (h : P s) (hi : i.writesFlags := by simp [Instr.writesFlags]) : P (s.setFlags f) :=
  k.flags hi _ _ h
theorem setPc (v : Word) (h : P s) (hi : i.writesPc := by simp [Instr.writesPc]) : P (s.setPc v) := k.pc hi _ _ h
theorem setSp (v : Word) (h : P s) (hi : i.writesSp := by simp [Instr.writesSp]) : P (s.setSp v) := k.sp hi _ _ h
theorem setCtl (c : CpuState) (h : P s) (hi : i.writesCtl := by simp [Instr.writesCtl]) : P { s with ctl := c } :=
  k.ctl hi _ _ h
theorem setHl (v : Word) (h : P s) : P (s.setPair .hl v) := k.reg _ .l (loByte v) (k.reg _ .h (hiByte v) h)
theorem setPair (p : Reg16) (v : Word) (h : P s) (hi : p = .sp → i.writesSp) : P (s.setPair p v) := by
  cases p with
  | bc => exact k.reg _ .c (loByte v) (k.reg _ .b (hiByte v) h)
  | de => exact k.reg _ .e (loByte v) (k.reg _ .d (hiByte v) h)
  | hl => exact k.setHl v h
  | sp => exact k.setSp v h (hi rfl)
theorem setStackPair (p : StackReg) (v : Word) (h : P s) (hi : p = .af → i.writesFlags) : P (s.setStackPair p v) := by
  cases p with
  | bc => exact k.reg _ .c (loByte v) (k.reg _ .b (hiByte v) h)
  | de => exact k.reg _ .e (loByte v) (k.reg _ .d (hiByte v) h)
  | hl => exact k.setHl v h
  | af => exact k.setFlags (Flags.ofByte (loByte v)) (k.reg _ .a (hiByte v) h) (hi rfl)
theorem writeX (x : Operand8) (v : Byte) (h : P s) : P (s.writeX x v) := by
  cases x with
  | reg r => exact k.reg _ r v h
  | mHL => exact k.write _ _ _ h
theorem push16 (v : Word) (h : P s) (hi : i.writesSp := by simp [Instr.writesSp]) : P (s.push16 v) :=
  k.write _ _ _ (k.setSp _ (k.write _ _ _ (k.setSp _ h hi)) hi)
theorem popped (h : P s) (hi : i.writesSp := by simp [Instr.writesSp]) : P s.popped := k.setSp _ h hi

/-- The end of an instruction. -/
theorem ends (n : Nat) (h : P s) (hn : n ∈ instrCycles := by decide) : Result.All Q (s.finish n) := k.finish _ _ hn h
theorem endsX (m n : Nat) (x : Operand8) (h : P s) (hm : m ∈ instrCycles := by decide)
    (hn : n ∈ instrCycles := by decide) : Result.All Q (s.finish (formCycles m n x)) :=
  k.ends _ h (formCycles_mem hm hn x)

theorem rotA (op : RotOp) (h : P s) (hi : i.writesFlags := by simp [Instr.writesFlags]) : Result.All Q (rotA op s) :=
  k.ends 4 (k.setFlags _ (k.reg _ _ _ h) hi)
theorem rotX (op : RotOp) (x : Operand8) (h : P s) (hi : i.writesFlags := by simp [Instr.writesFlags]) :
    Result.All Q (rotX op x s) := k.endsX 8 16 x (k.setFlags _ (k.writeX _ _ h) hi)
theorem bitX (b : Fin 8) (x : Operand8) (h : P s) (hi : i.writesFlags := by simp [Instr.writesFlags]) :
    Result.All Q (bitX b x s) := k.endsX 8 12 x (k.setFlags _ h hi)
theorem resX (b : Fin 8) (x : Operand8) (h : P s) : Result.All Q (resX b x s) := k.endsX 8 16 x (k.writeX _ _ h)
theorem setX (b : Fin 8) (x : Operand8) (h : P s) : Result.All Q (setX b x s) := k.endsX 8 16 x (k.writeX _ _ h)
theorem cbOperation (op2 : Byte) (h : P s) (hi : i.writesFlags) : Result.All Q (cbOperation op2 s) := by
  unfold Sys2Proof.Machine.cbOperation
  dsimp only
  split
  · exact k.rotX _ _ h hi
  · exact k.bitX _ _ h hi
  · exact k.resX _ _ h
  · exact k.setX _ _ h
theorem aluApply (op : AluOp) (v : Byte) {n : Nat} (hn : n ∈ instrCycles) (h : P s)
    (hi : i.writesFlags := by simp [Instr.writesFlags]) : Result.All Q (aluApply op v n s) :=
  k.ends _ (k.setFlags _ (k.reg _ _ _ h) hi) hn

end KeptBy

/-- An instruction writes flags, `PC`, `SP` and control flip-flops only as the tables of their writers say. -/
theorem exec_keptBy {P Q : State → Prop} {s : State} (i : Instr) (k : KeptBy i P Q) (h : P s) :
    Result.All Q (exec i s) := by
  revert i
  apply Instr.byFamily
  case nop => exact fun k => k.ends 4 h
  case stop => exact fun _ k => k.ends 4 (k.setCtl _ h)
  case halt =>
    intro k
    rw [exec_halt, haltAct]
    split
    · exact k.ends 4 (k.setCtl _ h)
    · exact k.ends 4 (k.setCtl _ h)
  case di => exact fun k => k.ends 4 (k.setCtl _ h)
  case ei => exact fun k => k.ends 4 (k.setCtl _ h)
  case prefix_CB => exact fun k => k.cbOperation _ (k.setPc _ h) (by simp [Instr.writesFlags])
  case ldRR => intro dst src k; rw [exec_ldRR]; exact k.ends 4 (k.reg _ _ _ h)
  case ldRN8 => intro dst n k; rw [exec_ldRN8]; exact k.ends 8 (k.reg _ _ _ h)
  case ldRM => intro dst k; rw [exec_ldRM]; exact k.ends 8 (k.reg _ _ _ h)
  case ldMR => intro r k; rw [exec_ldMR]; exact k.ends 8 (k.write _ _ _ h)
  case ld_mHL_n8 => exact fun _ k => k.ends 12 (k.write _ _ _ h)
  case ld_A_mBC => exact fun k => k.ends 8 (k.reg _ _ _ h)
  case ld_A_mDE => exact fun k => k.ends 8 (k.reg _ _ _ h)
  case ld_A_ma16 => exact fun _ k => k.ends 16 (k.reg _ _ _ h)
  case ldh_A_mC => exact fun k => k.ends 8 (k.reg _ _ _ h)
  case ldh_A_ma8 => exact fun _ k => k.ends 12 (k.reg _ _ _ h)
  case ld_mBC_A => exact fun k => k.ends 8 (k.write _ _ _ h)
  case ld_mDE_A => exact fun k => k.ends 8 (k.write _ _ _ h)
  case ld_ma16_A => exact fun _ k => k.ends 16 (k.write _ _ _ h)
  case ldh_mC_A => exact fun k => k.ends 8 (k.write _ _ _ h)
  case ldh_ma8_A => exact fun _ k => k.ends 12 (k.write _ _ _ h)
  case ld_A_mHLi => exact fun k => k.ends 8 (k.setHl _ (k.reg _ _ _ h))
  case ld_A_mHLd => exact fun k => k.ends 8 (k.setHl _ (k.reg _ _ _ h))
  case ld_mHLi_A => exact fun k => k.ends 8 (k.setHl _ (k.write _ _ _ h))
  case ld_mHLd_A => exact fun k => k.ends 8 (k.setHl _ (k.write _ _ _ h))
  case alu => intro op x k; rw [exec_alu]; exact k.aluApply _ _ (formCycles_mem (by decide) (by decide) x) h
  case aluN8 => intro op n k; rw [exec_aluN8]; exact k.aluApply _ _ (by decide) h
  case incX => intro x k; rw [exec_incX]; exact k.endsX 4 12 x (k.setFlags _ (k.writeX _ _ h))
  case decX => intro x k; rw [exec_decX]; exact k.endsX 4 12 x (k.setFlags _ (k.writeX _ _ h))
  case daa => exact fun k => k.ends 4 (k.setFlags _ (k.reg _ _ _ h))
  case cpl => exact fun k => k.ends 4 (k.setFlags _ (k.reg _ _ _ h))
  case scf => exact fun k => k.ends 4 (k.setFlags _ h)
  case ccf => exact fun k => k.ends 4 (k.setFlags _ h)
  case ldRrN16 =>
    intro p n k
    rw [exec_ldRrN16]
    exact k.ends 12 (k.setPair _ _ h (by rintro rfl; simp [Instr.writesSp, Instr.ldRrN16]))
  case ld_ma16_SP => exact fun _ k => k.ends 20 (k.write _ _ _ (k.write _ _ _ h))
  case ld_SP_HL => exact fun k => k.ends 8 (k.setSp _ h)
  case ld_HL_SPe8 => exact fun _ k => k.ends 12 (k.setFlags _ (k.setHl _ h))
  case add_SP_e8 => exact fun _ k => k.ends 16 (k.setFlags _ (k.setSp _ h))
  case push => intro p k; rw [exec_push]; exact k.ends 16 (k.push16 _ h)
  case pop =>
    intro p k
    rw [exec_pop]
    exact k.ends 12 (k.setStackPair _ _ (k.popped h) (by rintro rfl; simp [Instr.writesFlags, Instr.pop]))
  case incRr =>
    intro p k
    rw [exec_incRr]
    exact k.ends 8 (k.setPair _ _ h (by rintro rfl; simp [Instr.writesSp, Instr.incRr]))
  case decRr =>
    intro p k
    rw [exec_decRr]
    exact k.ends 8 (k.setPair _ _ h (by rintro rfl; simp [Instr.writesSp, Instr.decRr]))
  case addHlRr => intro p k; rw [exec_addHlRr]; exact k.ends 8 (k.setFlags _ (k.setHl _ h))
  case rlca => exact fun k => k.rotA _ h
  case rrca => exact fun k => k.rotA _ h
  case rla => exact fun k => k.rotA _ h
  case rra => exact fun k => k.rotA _ h
  case rot => intro op x k; rw [exec_rot]; exact k.rotX _ _ h
  case bit => intro b x k; rw [exec_bit]; exact k.bitX _ _ h
  case res => intro b x k; rw [exec_res]; exact k.resX _ _ h
  case set => intro b x k; rw [exec_set]; exact k.setX _ _ h
  case jp_a16 => exact fun _ k => k.ends 16 (k.setPc _ h)
  case jp_HL => exact fun k => k.ends 4 (k.setPc _ h)
  case jpCc => intro cc a k; rw [exec_jpCc]; exact Kept.ite _ (k.ends 16 (k.setPc _ h)) (k.ends 12 h)
  case jr_e8 => exact fun _ k => k.ends 12 (k.setPc _ h)
  case jrCc => intro cc e k; rw [exec_jrCc]; exact Kept.ite _ (k.ends 12 (k.setPc _ h)) (k.ends 8 h)
  case call_a16 => exact fun _ k => k.ends 24 (k.setPc _ (k.push16 _ h))
  case callCc =>
    intro cc a k
    rw [exec_callCc]
    exact Kept.ite _ (k.ends 24 (k.setPc _ (k.push16 _ h))) (k.ends 12 h)
  case ret => exact fun k => k.ends 16 (k.setPc _ (k.popped h))
  case retCc => intro cc k; rw [exec_retCc]; exact Kept.ite _ (k.ends 20 (k.setPc _ (k.popped h))) (k.ends 8 h)
  case reti => exact fun k => k.ends 16 (k.setCtl _ (k.setPc _ (k.popped h)))
  case rst => intro n k; rw [exec_rst]; exact k.ends 16 (k.setPc _ (k.push16 _ h))
  case illegal =>
    intro op i hi k
    rw [exec_illegal hi, illegalOpcode]
    split
    · exact k.ends 4 h
    · exact True.intro

/-- A field that every part of an instruction's effect leaves alone, the instruction leaves alone. -/
theorem exec_field {α : Type} (f : State → α) {i : Instr} {s t : State} (ht : exec i s = .next t)
    (reg : ∀ s r v, f (s.setReg r v) = f s := by simp) (write : ∀ s a v, f (s.write a v) = f s := by simp)
    (flags : i.writesFlags → ∀ s v, f (s.setFlags v) = f s := by simp)
    (pc : i.writesPc → ∀ s v, f (s.setPc v) = f s := by simp) (sp : i.writesSp → ∀ s v, f (s.setSp v) = f s := by simp)
    (ctl : i.writesCtl → ∀ s c, f { s with ctl := c } = f s := by simp)
    (cycles : ∀ s n, f { s with cycles := n } = f s := by simp) : f t = f s := by
  have k : KeptBy i (fun u => f u = f s) (fun u => f u = f s) :=
    ⟨fun u r v h => (reg u r v).trans h, fun u a v h => (write u a v).trans h, fun hi u v h => (flags hi u v).trans h,
      fun hi u v h => (pc hi u v).trans h, fun hi u v h => (sp hi u v).trans h, fun hi u c h => (ctl hi u c).trans h,
      fun u n _ h => (cycles u n).trans h⟩
  exact Result.all_iff.mp (exec_keptBy i k rfl) t ht

section
variable {i : Instr} {s t : State}

theorem exec_flags (hi : ¬ i.writesFlags) (ht : exec i s = .next t) : t.regs.flags = s.regs.flags :=
  exec_field (fun s => s.regs.flags) ht (flags := fun h => absurd h hi)

theorem exec_ctl (hi : ¬ i.writesCtl) (ht : exec i s = .next t) : t.ctl = s.ctl :=
  exec_field (fun s => s.ctl) ht (ctl := fun h => absurd h hi)

theorem exec_pc (hi : ¬ i.writesPc) (ht : exec i s = .next t) : t.regs.pc = s.regs.pc :=
  exec_field (fun s => s.regs.pc) ht (pc := fun h => absurd h hi)

theorem exec_sp (hi : ¬ i.writesSp) (ht : exec i s = .next t) : t.regs.sp = s.regs.sp :=
  exec_field (fun s => s.regs.sp) ht (sp := fun h => absurd h hi)

theorem exec_cycles (ht : exec i s = .next t) : t.cycles ∈ instrCycles := by
  have k : KeptBy i (fun _ => True) (fun u => u.cycles ∈ instrCycles) :=
    ⟨fun _ _ _ h => h, fun _ _ _ h => h, fun _ _ _ h => h, fun _ _ _ h => h, fun _ _ _ h => h, fun _ _ _ h => h,
      fun _ _ hn _ => hn⟩
  exact Result.all_iff.mp (exec_keptBy i k trivial) t ht

end

/-- Settles O59: an instruction's effect writes the flags only under `Instr.writesFlags` (10_state R13). -/
theorem onlyFlagWritersChangeFlags : Obligations.OnlyFlagWritersChangeFlags := fun _ _ _ hi ht => exec_flags hi ht

/-- Settles O60: the same of the flip-flops, `PC` and `SP`, and every end of an instruction counts 4 to 24 cycles. -/
theorem writersOfControlState : Obligations.WritersOfControlState := fun _ _ _ ht =>
  ⟨fun hi => exec_ctl hi ht, fun hi => exec_pc hi ht, fun hi => exec_sp hi ht, exec_cycles ht⟩

end Sys2Proof.Machine
end

section
/-! PROOFS. What a step keeps of memory, the PPU and the frame buffer (10_state R24, R25, R28, 60_exceptions R362 to R366). -/

namespace Sys2Proof.Machine

/-- The part of the invariant that the PPU carries. -/
structure State.PpuInv (s : State) : Prop where
  frameBuffer : s.frameBufferCanonical
  stat : s.statMirrorsMode
  ly : s.lyInRange
  drawLen : s.drawLenInRange

/-- All that `State.PpuInv` reads of a state. -/
def State.ppuView (s : State) : Config × Mode × Nat × BitVec 2 × Byte × FrameBuffer :=
  (s.cfg, s.ppu.mode, s.ppu.drawLen, s.lcd.stat.extractLsb' 0 2, s.lcd.ly, s.fb)

theorem State.PpuInv.congr {s t : State} (h : s.PpuInv) (e : t.ppuView = s.ppuView) : t.PpuInv := by
  simp only [State.ppuView, Prod.mk.injEq] at e
  obtain ⟨hcfg, hmode, hlen, hstat, hly, hfb⟩ := e
  refine ⟨?_, ?_, ?_, ?_⟩
  · rw [State.frameBufferCanonical, hfb]; exact h.frameBuffer
  · rw [State.statMirrorsMode, hstat, hmode]; exact h.stat
  · rw [State.lyInRange, hly, hmode]; exact h.ly
  · rw [State.drawLenInRange, hcfg, hlen]; exact h.drawLen

/-! ### STAT bits 1..0 -/

theorem statWithMode_mode (stat : Byte) (m : Mode) : (statWithMode stat m).extractLsb' 0 2 = m.code := by
  revert stat
  cases m <;> decide

theorem extractMode_and_three (stat : Byte) : stat.extractLsb' 0 2 &&& 3#2 = stat.extractLsb' 0 2 := BitVec.and_allOnes

theorem statWithCoincidence_mode (stat : Byte) (eq : Bool) :
    (statWithCoincidence stat eq).extractLsb' 0 2 = stat.extractLsb' 0 2 := by
  cases eq <;> simp [statWithCoincidence, BitVec.extractLsb'_and, BitVec.extractLsb'_or, extractMode_and_three]

theorem writeStat_mode (stat v : Byte) : (writeStat stat v).extractLsb' 0 2 = stat.extractLsb' 0 2 := by
  simp [writeStat, BitVec.extractLsb'_and, BitVec.extractLsb'_or, extractMode_and_three]

/-! ### Mode entries and the mode machine -/

/-- A mode entry sets STAT bits 1..0 to the mode, so only `LY` has to suit the mode entered. -/
theorem enterMode_ppuInv {m : Mode} {s : State} (d : Nat) (fb : s.frameBufferCanonical) (len : s.drawLenInRange)
    (ly : s.lcd.ly.toNat ≤ 153) (ly' : m ≠ .vBlank → s.lcd.ly.toNat ≤ 143) : (s.enterMode m d).PpuInv := by
  obtain ⟨f, h⟩ := enterMode_cases m d s
  rw [h]
  exact ⟨fb, (statWithCoincidence_mode _ _).trans (statWithMode_mode _ _), ⟨ly, ly'⟩, len⟩

theorem evalCoincidence_ppuInv {s : State} (h : s.PpuInv) : s.evalCoincidence.PpuInv := by
  refine h.congr ?_
  rw [evalCoincidence_eq]
  simp only [State.ppuView, statWithCoincidence_mode]

/-- An `LY` below a bound stays within it when it is counted up. -/
theorem ly_succ_le {v b : Byte} (h : v.toNat ≤ b.toNat) (hne : v ≠ b) : (v + 1).toNat ≤ b.toNat := by
  bv_omega

theorem endOamScan_ppuInv {s : State} (h : s.PpuInv) (hm : s.ppu.mode = .oamScan) : s.endOamScan.PpuInv := by
  refine enterMode_ppuInv _ h.frameBuffer ⟨Nat.le_add_right _ _, ?_⟩ h.ly.1 fun _ => h.ly.2 (by simp [hm])
  show 172 + s.cfg.spriteDrawPenalty * (s.selectSprites s.lcd.ly.toNat).length ≤ 172 + 10 * s.cfg.spriteDrawPenalty
  have := Nat.mul_le_mul_left s.cfg.spriteDrawPenalty (selectSprites_length s.lcd.ly.toNat s)
  omega

theorem endDrawing_ppuInv {s : State} (h : s.PpuInv) (hm : s.ppu.mode = .drawing) : s.endDrawing.PpuInv := by
  have hly : s.lcd.ly.toNat ≤ 143 := h.ly.2 (by simp [hm])
  refine enterMode_ppuInv _ ?_ h.drawLen h.ly.1 fun _ => hly
  exact FrameBuffer.wf_setLine h.frameBuffer (Nat.lt_succ_of_le hly) (renderedLine_length _ s)

theorem endHBlank_ppuInv {s : State} (h : s.PpuInv) (hm : s.ppu.mode = .hBlank) : s.endHBlank.PpuInv := by
  have hly : s.lcd.ly.toNat ≤ 143 := h.ly.2 (by simp [hm])
  unfold State.endHBlank
  split
  · exact enterMode_ppuInv _ h.frameBuffer h.drawLen (by decide : (144 : Byte).toNat ≤ 153) fun hv => absurd rfl hv
  · next hne =>
    have hly' : (s.lcd.ly + 1).toNat ≤ 143 := ly_succ_le (b := 143) hly hne
    exact enterMode_ppuInv _ h.frameBuffer h.drawLen (Nat.le_trans hly' (by decide)) fun _ => hly'

theorem endVBlankLine_ppuInv {s : State} (h : s.PpuInv) (hm : s.ppu.mode = .vBlank) : s.endVBlankLine.PpuInv := by
  unfold State.endVBlankLine
  split
  · exact enterMode_ppuInv _ h.frameBuffer h.drawLen (Nat.zero_le 153) fun _ => Nat.zero_le 143
  · next hne =>
    exact evalCoincidence_ppuInv
      ⟨h.frameBuffer, h.stat, ⟨ly_succ_le (b := 153) h.ly.1 hne, fun hv => absurd hm hv⟩, h.drawLen⟩

theorem ppuTick_ppuInv {s : State} (h : s.PpuInv) : s.ppuTick.PpuInv := by
  have hc : s.ppuCounted.PpuInv := h.congr rfl
  rw [ppuTick_eq]
  split_ifs
  · unfold State.ppuModeEnd
    split
    · next hm => exact endOamScan_ppuInv hc hm
    · next hm => exact endDrawing_ppuInv hc hm
    · next hm => exact endHBlank_ppuInv hc hm
    · next hm => exact endVBlankLine_ppuInv hc hm
  · exact hc
  · exact h

theorem tickDevices_ppuInv {s : State} (h : s.PpuInv) : s.tickDevices.PpuInv :=
  (ppuTick_ppuInv h).congr (by rw [State.tickDevices, timerTick_eq]; rfl)

/-! ### Bus writes -/

theorem writeLcdc_ppuInv (v : Byte) {s : State} (h : s.PpuInv) : (s.writeLcdc v).PpuInv := by
  rcases writeLcdc_cases v s with ⟨e, -⟩ | ⟨e, -⟩ | ⟨e, -⟩ <;> rw [e]
  · exact h.congr rfl
  · refine ⟨h.frameBuffer, ?_, ⟨Nat.zero_le 153, fun _ => Nat.zero_le 143⟩, h.drawLen⟩
    exact BitVec.extractLsb'_and.trans BitVec.and_zero
  · exact enterMode_ppuInv _ h.frameBuffer h.drawLen (Nat.zero_le 153) fun _ => Nat.zero_le 143

theorem ioWrite_ppuInv (a : Word) (v : Byte) {s : State} (h : s.PpuInv) : (s.ioWrite a v).PpuInv := by
  unfold State.ioWrite
  cases ioReg a
  case lcdc => exact writeLcdc_ppuInv v h
  case stat => exact h.congr (by simp only [State.ppuView, writeStat_mode])
  case ly => exact ⟨h.frameBuffer, h.stat, ⟨Nat.zero_le 153, fun _ => Nat.zero_le 143⟩, h.drawLen⟩
  case dma =>
    obtain ⟨m, e, -⟩ := startDma_cases v s
    exact h.congr (by rw [e]; rfl)
  all_goals exact h.congr rfl

theorem write_ppuInv (a : Word) (v : Byte) {s : State} (h : s.PpuInv) : (s.write a v).PpuInv := by
  unfold State.write
  cases region a
  case io => exact ioWrite_ppuInv a v h
  case rom =>
    obtain ⟨m, e, -⟩ := mapperWriteRom_eq a v s
    exact h.congr (by rw [e]; rfl)
  case cartRam =>
    obtain ⟨m, e, -⟩ := mapperWriteRam_eq a v s
    exact h.congr (by rw [e]; rfl)
  case vram => exact h.congr (by dsimp only; split <;> rfl)
  case oam => exact h.congr (by dsimp only; split <;> rfl)
  all_goals exact h.congr rfl

/-! ### The step -/

theorem kept_ppuInv : Kept State.PpuInv where
  regs _ _ h := h.congr rfl
  ctl _ _ _ h := h.congr rfl
  cycles _ _ h := h.congr rfl
  write _ a v h := write_ppuInv a v h

theorem step_ppuInv {s t : State} (h : s.PpuInv) (hs : step s = .next t) : t.PpuInv :=
  step_kept kept_ppuInv (fun _ _ h => h.congr rfl) (fun _ _ h => h.congr rfl) (fun _ _ h => h.congr rfl)
    (fun _ h => tickDevices_ppuInv h) h hs

theorem kept_memoryCanonical : Kept State.memoryCanonical where
  regs _ _ h := h
  ctl _ _ _ h := h
  cycles _ _ h := h
  write _ a v h := write_memoryCanonical h a v

theorem tickDevices_memoryCanonical {s : State} (h : s.memoryCanonical) : s.tickDevices.memoryCanonical := by
  obtain ⟨-, -, -, -, hmem, -⟩ := tickDevices_frame s
  rw [State.memoryCanonical, hmem]
  exact h

theorem step_memoryCanonical {s t : State} (h : s.memoryCanonical) (hs : step s = .next t) : t.memoryCanonical :=
  step_kept kept_memoryCanonical (fun _ _ h => h) (fun _ _ h => h) (fun _ _ h => h)
    (fun _ h => tickDevices_memoryCanonical h) h hs

end Sys2Proof.Machine
end

section
/-! PROOFS. The CPU is never halted with the halt bug set (10_state R17, R18), and so a step keeps the whole invariant. -/

namespace Sys2Proof.Machine

theorem haltExclusive_of_not_halted {s : State} (h : s.ctl.halted = false) : s.haltExclusive := by
  simp [State.haltExclusive, h]

theorem haltExclusive_of_not_haltBug {s : State} (h : s.ctl.haltBug = false) : s.haltExclusive := by
  simp [State.haltExclusive, h]

/-- The fetch clears the halt bug (60_exceptions R323). -/
theorem fetchInstr_halt {s t : State} {i : Instr} (h : s.fetchInstr = .ok (i, t)) :
    t.ctl.halted = s.ctl.halted ∧ t.ctl.haltBug = false := by
  have ha : s.afterOpcodeFetch.ctl.halted = s.ctl.halted ∧ s.afterOpcodeFetch.ctl.haltBug = false := by
    unfold State.afterOpcodeFetch
    split
    · exact ⟨rfl, rfl⟩
    · next hb => exact ⟨rfl, by simpa using hb⟩
  unfold State.fetchInstr at h
  split at h
  · cases h
  · cases h
    exact ha

/-- `HALT` sets one of the two flip-flops, and no other instruction sets either (45_system R291). -/
theorem exec_haltExclusive (i : Instr) {s : State} (hh : s.ctl.halted = false) (hb : s.ctl.haltBug = false) :
    Result.All State.haltExclusive (exec i s) := by
  by_cases hi : i.writesCtl
  · obtain h | ⟨pad, rfl⟩ := hi
    · simp only [List.mem_cons, List.not_mem_nil, or_false] at h
      rcases h with rfl | rfl | rfl | rfl
      · rw [exec_halt, haltAct]
        split
        · exact haltExclusive_of_not_halted hh
        · exact haltExclusive_of_not_haltBug hb
      · exact haltExclusive_of_not_halted hh
      · exact haltExclusive_of_not_halted hh
      · exact haltExclusive_of_not_halted hh
    · exact haltExclusive_of_not_halted hh
  · exact Result.all_iff.mpr fun t ht => haltExclusive_of_not_halted (by rw [exec_ctl hi ht, hh])

/-- Each of the four branches of `Step()` leaves `Halted` clear or the halt bug as it was (60_exceptions R318). -/
theorem cpuAct_haltExclusive {s : State} (h : s.haltExclusive) : Result.All State.haltExclusive s.cpuAct := by
  unfold State.cpuAct
  split_ifs with hdispatch hwake hidle
  · exact haltExclusive_of_not_halted rfl
  · exact haltExclusive_of_not_halted rfl
  · exact h
  · unfold State.runInstruction
    split
    · next he =>
      obtain ⟨hh, hb⟩ := fetchInstr_halt he
      exact exec_haltExclusive _ (hh.trans (by simpa using hidle)) hb
    · exact True.intro

theorem promoteEi_haltExclusive {s : State} (h : s.haltExclusive) : s.promoteEi.haltExclusive := by
  rw [State.haltExclusive, promoteEi_ctl]
  exact h

theorem hostActions_haltExclusive {s : State} (h : s.haltExclusive) : s.hostActions.haltExclusive := by
  refine hostActions_kept (fun _ _ h => h) (fun s e h => ?_) h
  rw [State.haltExclusive, State.setButton, requestWhen_ctl]
  exact h

theorem tickDevices_haltExclusive {s : State} (h : s.haltExclusive) : s.tickDevices.haltExclusive := by
  obtain ⟨-, -, hctl, -⟩ := tickDevices_frame s
  rw [State.haltExclusive, hctl]
  exact h

theorem step_haltExclusive {s t : State} (h : s.haltExclusive) (hs : step s = .next t) : t.haltExclusive := by
  have hc := Result.all_iff.mp (cpuAct_haltExclusive (promoteEi_haltExclusive (hostActions_haltExclusive h)))
  rw [step_eq_replayed] at hs
  unfold Result.replayed at hs
  split at hs
  · next u hu => cases hs; exact replay_kept (fun _ h => tickDevices_haltExclusive h) _ (hc u hu)
  · cases hs
  · cases hs

/-- Settles O56: memory, the PPU's part and the halt flip-flops are kept each by itself. -/
theorem stepKeepsInvariant : Obligations.StepKeepsInvariant := by
  intro s t h hs
  have hp : t.PpuInv := step_ppuInv ⟨h.frameBuffer, h.stat, h.ly, h.drawLen⟩ hs
  exact ⟨step_memoryCanonical h.memory hs, hp.frameBuffer, hp.stat, hp.ly, hp.drawLen, step_haltExclusive h.halt hs⟩

/-- Settles O55: power-on lists no memory and no line of the frame buffer, is in OamScan of line 0 with STAT 0x86, and is
not halted. -/
theorem resetMeetsInvariant : Obligations.ResetMeetsInvariant where
  memory := ⟨⟨.nil, fun _ h => absurd h List.not_mem_nil⟩, fun _ h => absurd h List.not_mem_nil⟩
  frameBuffer := ⟨⟨.nil, fun _ h => absurd h List.not_mem_nil⟩, fun _ h => absurd h List.not_mem_nil⟩
  stat := rfl
  ly := ⟨Nat.zero_le 153, fun _ => Nat.zero_le 143⟩
  drawLen := ⟨le_refl 172, Nat.le_add_right 172 _⟩
  halt := haltExclusive_of_not_halted rfl

end Sys2Proof.Machine
end

section
/-! PROOFS. The register file and its pair views (10_state R11, R12). -/

namespace Sys2Proof.Machine

theorem getReg_setReg (r q : Reg8) (v : Byte) (s : State) :
    (s.setReg r v).getReg q = if q = r then v else s.getReg q := by
  split
  · next h => rw [h, getReg_setReg_self]
  · next h => exact getReg_setReg_of_ne h v s

theorem setReg_eq_withRegs (r : Reg8) (v : Byte) (s : State) : s.setReg r v = { s with regs := (s.setReg r v).regs } := by
  cases r <;> rfl

/-- A byte of the form of `F` has its low four bits 0. -/
theorem Flags.toByte_and_low (f : Flags) : f.toByte &&& 0x0F = 0 := by
  obtain ⟨z, n, h, c⟩ := f
  revert z n h c
  decide

/-- What `AF` gives back of a word written to it: all but bits 3..0. -/
theorem getStackPair_setStackPair_af (v : Word) (s : State) :
    (s.setStackPair .af v).getStackPair .af = v &&& 0xFFF0 := by
  have hhi : hiByte v &&& (0xFF : Byte) = hiByte v := BitVec.and_allOnes
  calc wordOf (hiByte v) (Flags.ofByte (loByte v)).toByte
      = wordOf (hiByte v &&& 0xFF) (loByte v &&& 0xF0) := by rw [Flags.toByte_ofByte, hhi]
    _ = wordOf (hiByte v) (loByte v) &&& wordOf 0xFF 0xF0 := BitVec.and_append.symm
    _ = v &&& 0xFFF0 := by rw [wordOf_hi_lo]; rfl

/-- Settles O5, by the laws of register reads and writes; the views are true by unfolding. -/
theorem registerFile : Obligations.RegisterFile := by
  intro s v f r
  refine ⟨fun q => getReg_setReg r q f s, ⟨setReg_eq_withRegs r f s, setReg_regs_flags r f s, setReg_regs_sp r f s,
    setReg_regs_pc r f s⟩, rfl, rfl, rfl, rfl, rfl, rfl, rfl, rfl, rfl, rfl, rfl, rfl, rfl, rfl, rfl, rfl, rfl, rfl, rfl,
    rfl, rfl, rfl, rfl, rfl, rfl, rfl, rfl, fun p => getPair_setPair_self p v s, getStackPair_setStackPair_af v s,
    Flags.toByte_ofByte f, Flags.toByte_and_low s.regs.flags⟩

end Sys2Proof.Machine
end

section
/-! PROOFS. The address map: where each region lies, and what a bus read of it returns (20_memory section 1). -/

namespace Sys2Proof.Machine

/-- The first address of a region (20_memory section 1). -/
def Region.first : Region → Nat
  | .rom => 0x0000
  | .vram => 0x8000
  | .cartRam => 0xA000
  | .wram => 0xC000
  | .echo => 0xE000
  | .oam => 0xFE00
  | .unusable => 0xFEA0
  | .io => 0xFF00
  | .hram => 0xFF80
  | .ie => 0xFFFF

/-- The last address of a region (20_memory section 1). -/
def Region.last : Region → Nat
  | .rom => 0x7FFF
  | .vram => 0x9FFF
  | .cartRam => 0xBFFF
  | .wram => 0xDFFF
  | .echo => 0xFDFF
  | .oam => 0xFE9F
  | .unusable => 0xFEFF
  | .io => 0xFF7F
  | .hram => 0xFFFE
  | .ie => 0xFFFF

/-- The regions abut and do not overlap, so an address between a region's ends is in that region. -/
theorem region_of_bounds {a : Word} (r : Region) (h : r.first ≤ a.toNat ∧ a.toNat ≤ r.last) : region a = r := by
  unfold region
  cases r <;> dsimp only [Region.first, Region.last] at h <;> simp (disch := omega) only [if_pos, if_neg]

/-- With no mapper a read below 0x8000 is the byte of the ROM image. -/
theorem read_rom_of_noMapper {s : State} (hm : s.cfg.mapper = .noMapper) {a : Word} (ha : a.toNat ≤ 0x7FFF) :
    s.read a = s.mem.read a.toNat := by
  rw [State.read, State.readWith, region_of_bounds .rom ⟨Nat.zero_le _, ha⟩]
  dsimp only
  rw [State.mapperReadRom, hm]

theorem vramBlocked_iff (s : State) :
    s.vramBlocked = true ↔ s.cfg.vramAccessMode = .vramMode3Blocked ∧ s.ppu.mode = .drawing := by
  unfold State.vramBlocked
  split <;> simp [*]

theorem oamBlocked_iff (s : State) :
    s.oamBlocked = true ↔ s.ppu.mode = .oamScan ∨ s.ppu.mode = .drawing ∨ 0 < s.dmaBusy := by
  unfold State.oamBlocked
  cases s.ppu.mode <;> simp [Mode.code]

/-- In HBlank and outside the DMA window neither blocking test holds. -/
theorem rawRead_eq_read_unblocked (s : State) (a : Word) :
    s.rawRead a = State.read { s with ppu := { s.ppu with mode := .hBlank }, dmaBusy := 0 } a := by
  have hv : State.vramBlocked { s with ppu := { s.ppu with mode := .hBlank }, dmaBusy := 0 } = false := by
    rw [Bool.eq_false_iff, ne_eq, vramBlocked_iff]
    simp
  have ho : State.oamBlocked { s with ppu := { s.ppu with mode := .hBlank }, dmaBusy := 0 } = false := rfl
  rw [State.read, hv, ho]
  rfl

/-- Settles O37: an address's bounds give its region, and the region the row of the read decode. -/
theorem readMap : Obligations.ReadMap := by
  intro s a n
  have row (r : Region) (h : r.first ≤ n ∧ n ≤ r.last) : region a = r := region_of_bounds r h
  refine ⟨fun h => ?rom, fun h => ?vram, fun h => ?cartRam, fun h => ?wram, fun h => ?echo, fun h => ?oam,
    fun h => ?unusable, fun h => ?io, fun h => ?hram, fun h => ?ie, rawRead_eq_read_unblocked s a⟩
  case echo =>
    have hsub : (a - 0x2000).toNat = n - 0x2000 := BitVec.toNat_sub_of_le (Nat.le_trans (by decide) h.1)
    have hwram : region (a - 0x2000) = .wram :=
      region_of_bounds .wram (by rw [hsub]; dsimp only [Region.first, Region.last]; omega)
    rw [State.read, State.read, State.readWith, State.readWith, row .echo h, hwram, hsub]
  all_goals rw [State.read, State.readWith]
  case rom => rw [row .rom ⟨Nat.zero_le n, h⟩]; rfl
  case vram => simp only [row .vram h, vramBlocked_iff]; rfl
  case cartRam => rw [row .cartRam h]; rfl
  case wram => rw [row .wram h]
  case oam => simp only [row .oam h, oamBlocked_iff]; rfl
  case unusable => rw [row .unusable h]
  case io =>
    have hplain : ioReg a = .plain := by rw [ioReg, h.2.2]; rfl
    rw [row .io ⟨h.1, h.2.1⟩]
    dsimp only
    rw [State.ioRead, hplain]
  case hram => rw [row .hram h]
  case ie => rw [row .ie ⟨h.ge, h.le⟩]

end Sys2Proof.Machine
end

section
/-! PROOFS. Bus writes to storage and to the mapper (20_memory R51 to R61). The read decode reads memory at one number,
`storageAddress`, so a store shows at the addresses of that number and nowhere else. -/

namespace Sys2Proof.Machine

theorem storageAddress_of_echo {a : Word} (h : region a = .echo) : storageAddress a = a.toNat - 0x2000 := if_pos h

theorem storageAddress_of_ne_echo {a : Word} (h : region a ≠ .echo) : storageAddress a = a.toNat := if_neg h

/-- A store elsewhere does not change what an address reads, whatever is blocked. -/
theorem readWith_store_of_ne {b : Word} {k : Nat} (h : storageAddress b ≠ k) (v : Byte) (s : State) (vram oam : Bool) :
    (s.store k v).readWith vram oam b = s.readWith vram oam b := by
  have hmem : (s.store k v).mem.read (storageAddress b) = s.mem.read (storageAddress b) :=
    Memory.read_write_of_ne _ h.symm v
  unfold State.readWith
  cases hr : region b <;> dsimp only
  case echo => rwa [storageAddress_of_echo hr] at hmem
  case ie => rfl
  case cartRam => rfl
  all_goals rw [storageAddress_of_ne_echo (by simp [hr])] at hmem
  case rom => rw [State.mapperReadRom, hmem]; rfl
  case io => rw [State.ioRead, hmem]; rfl
  all_goals rw [hmem]

/-- An address whose writes are stored reads the byte stored under its number. -/
theorem read_of_storesByte {s : State} {a : Word} (h : s.storesByte a = true) : s.read a = s.mem.read (storageAddress a) := by
  unfold State.storesByte at h
  unfold State.read State.readWith
  cases hr : region a <;> rw [hr] at h <;> dsimp only at h ⊢
  case echo => rw [storageAddress_of_echo hr]
  case rom => exact absurd h Bool.false_ne_true
  case cartRam => exact absurd h Bool.false_ne_true
  case unusable => exact absurd h Bool.false_ne_true
  case ie => exact absurd h Bool.false_ne_true
  all_goals rw [storageAddress_of_ne_echo (by simp [hr])]
  case vram => exact if_neg (by simpa using h)
  case oam => exact if_neg (by simpa using h)
  case io => rw [State.ioRead, of_decide_eq_true h]

/-- Echo RAM is stored in work RAM (20_memory R57). -/
theorem region_of_storageAddress_eq_echo {a b : Word} (ha : region a = .echo) (hb : region b ≠ .echo)
    (h : storageAddress b = storageAddress a) : region b = .wram := by
  have hbounds := region_bounds a
  rw [ha] at hbounds
  rw [storageAddress_of_echo ha, storageAddress_of_ne_echo hb] at h
  exact region_of_bounds .wram (by rw [h]; dsimp only [Region.first, Region.last]; omega)

/-- Two addresses of one number are stored alike: they are equal, or in work RAM and its echo. -/
theorem storesByte_of_storageAddress_eq {s : State} {a b : Word} (hs : s.storesByte a = true)
    (h : storageAddress b = storageAddress a) : s.storesByte b = true := by
  by_cases hb : region b = .echo
  · rw [State.storesByte, hb]
  by_cases ha : region a = .echo
  · rw [State.storesByte, region_of_storageAddress_eq_echo ha hb h]
  have hab : b = a := by
    rw [storageAddress_of_ne_echo ha, storageAddress_of_ne_echo hb] at h
    exact BitVec.eq_of_toNat_eq h
  rwa [hab]

/-- A store changes no test that decides where a write goes. -/
theorem storesByte_store (k : Nat) (v : Byte) (s : State) (a : Word) : (s.store k v).storesByte a = s.storesByte a := rfl

/-- What every address reads after a store through an address. -/
theorem read_store_of_storesByte {s : State} {a : Word} (hs : s.storesByte a = true) (v : Byte) (b : Word) :
    (s.store (storageAddress a) v).read b = if storageAddress b = storageAddress a then v else s.read b := by
  split
  · next h =>
    have hb : (s.store (storageAddress a) v).storesByte b = true :=
      (storesByte_store _ v s b).trans (storesByte_of_storageAddress_eq hs h)
    rw [read_of_storesByte hb, h, store_mem, Memory.read_write_self]
  · next h => exact readWith_store_of_ne h v s _ _

theorem write_of_dropsWrite {s : State} {a : Word} (h : s.dropsWrite a = true) (v : Byte) : s.write a v = s := by
  unfold State.dropsWrite at h
  unfold State.write
  cases hr : region a <;> rw [hr] at h <;> dsimp only at h ⊢
  case rom => rw [State.mapperWriteRom, of_decide_eq_true h]
  case cartRam => rw [State.mapperWriteRam, of_decide_eq_true h]
  case vram => exact if_pos h
  case oam => exact if_pos h
  all_goals exact absurd h Bool.false_ne_true

/-- Settles O39: a stored byte shows at the addresses of its number; dropped and mapper writes are rows of the decode. -/
theorem storeFrame : Obligations.StoreFrame := by
  intro s a v
  refine ⟨fun h => write_of_dropsWrite h v, fun h => ?_, fun id hid => ⟨fun h => ?_, fun h => ?_⟩⟩
  · rw [write_storesByte h]
    exact ⟨rfl, read_store_of_storesByte h v⟩
  · rw [State.write, region_of_bounds .rom ⟨Nat.zero_le _, h⟩]
    dsimp only
    rw [State.mapperWriteRom, hid]
  · rw [State.write, region_of_bounds .cartRam h]
    dsimp only
    rw [State.mapperWriteRam, hid]

end Sys2Proof.Machine
end

section
/-! PROOFS. The OAM copy (20_memory R80, R81). No source byte is an OAM byte that an earlier byte of the copy wrote. -/

namespace Sys2Proof.Machine

/-- The address of a byte of the source page. -/
theorem dmaSource_toNat (v : Byte) {i : Nat} (hi : i < 160) :
    (wordOf v 0 + BitVec.ofNat 16 i).toNat = 256 * v.toNat + i := by
  have := wordOf_toNat v 0
  bv_omega

/-- The source of one byte is not the destination of another, even when the page is OAM's own or its echo. -/
theorem storageAddress_dmaSource_ne (v : Byte) {i j : Nat} (hi : i < 160) (hj : j < 160) (hij : i ≠ j) :
    storageAddress (wordOf v 0 + BitVec.ofNat 16 i) ≠ 0xFE00 + j := by
  have hsrc := dmaSource_toNat v hi
  unfold storageAddress
  split
  · next hr =>
    have hbounds := region_bounds (wordOf v 0 + BitVec.ofNat 16 i)
    rw [hr] at hbounds
    omega
  · omega

/-- Every byte of the copy is the raw read of its source before the copy. -/
theorem foldl_dmaCopyByte_read (v : Byte) {l : List Nat} (hd : l.Nodup) (hl : ∀ j ∈ l, j < 160) (s : State) {i : Nat}
    (hi : i ∈ l) : (l.foldl (State.dmaCopyByte v) s).mem.read (0xFE00 + i) = s.rawRead (wordOf v 0 + BitVec.ofNat 16 i) := by
  induction l generalizing s with
  | nil => exact absurd hi List.not_mem_nil
  | cons j l ih =>
    obtain ⟨hj, hd⟩ := List.nodup_cons.mp hd
    rcases List.mem_cons.mp hi with rfl | hi'
    · obtain ⟨m, hm, hread, -⟩ := foldl_dmaCopyByte v l (s.dmaCopyByte v i)
      have hlater : ∀ k ∈ l, 0xFE00 + k ≠ 0xFE00 + i := fun k hk h => hj (Nat.add_left_cancel h ▸ hk)
      rw [List.foldl_cons, hm, hread _ hlater]
      exact Memory.read_write_self _ _ _
    · have hij : i ≠ j := fun h => hj (h ▸ hi')
      rw [List.foldl_cons, ih hd (fun k hk => hl k (List.mem_cons_of_mem _ hk)) _ hi']
      exact readWith_store_of_ne (storageAddress_dmaSource_ne v (hl i hi) (hl j List.mem_cons_self) hij) _ s _ _

theorem startDma_mem (v : Byte) (s : State) : (s.startDma v).mem =
    ((List.range 160).foldl (State.dmaCopyByte v) { s with lcd := { s.lcd with dma := v } }).mem := by
  unfold State.startDma
  generalize (List.range 160).foldl (State.dmaCopyByte v) { s with lcd := { s.lcd with dma := v } } = u
  rfl

theorem write_dma (s : State) (v : Byte) : s.write 0xFF46 v = s.startDma v := by
  rw [State.write, region_of_bounds .io (by decide)]
  dsimp only
  rw [State.ioWrite, show ioReg 0xFF46 = .dma from rfl]

/-- Settles O42: the copy's frame, and the value of each byte by induction on the bytes copied. -/
theorem oamDma : Obligations.OamDma := by
  intro s v source t
  have ht : t = s.startDma v := write_dma s v
  refine ⟨?_, fun i hi => ?_, fun b hb => ?_⟩
  · obtain ⟨m, hm, -⟩ := startDma_cases v s
    rw [ht, hm]
  · have hsrc : BitVec.ofNat 16 (256 * v.toNat + i) = wordOf v 0 + BitVec.ofNat 16 i := by
      rw [← dmaSource_toNat v hi, BitVec.ofNat_toNat, BitVec.setWidth_eq]
    rw [ht, startDma_mem, hsrc]
    exact foldl_dmaCopyByte_read v List.nodup_range (fun j hj => List.mem_range.mp hj) source (List.mem_range.mpr hi)
  · obtain ⟨m, hm, hframe, -⟩ := startDma_cases v s
    rw [ht, hm]
    exact hframe b hb

end Sys2Proof.Machine
end

section
/-! PROOFS. The named I/O registers (20_memory R70 to R76) and the LCD switch (60_exceptions R369, R370). Every address is
a literal, so the decode and the register's row are true by unfolding; what is left are the masks. -/

namespace Sys2Proof.Machine

theorem readTac_eq_append (t : TimerState) : t.readTac = 0b11111#5 ++ t.tac := by
  have h : ∀ tac : BitVec 3, 0xF8 ||| tac.setWidth 8 = 0b11111#5 ++ tac := by decide
  exact h t.tac

/-- `IF` reads with its unused bits 1 (60_exceptions R312). -/
theorem ifRead_eq_append (f : BitVec 5) : 0xE0 ||| f.setWidth 8 = 0b111#3 ++ f := by
  revert f
  decide

/-- A write to STAT keeps bits 2..0 (20_memory R72). -/
theorem writeStat_eq_append (stat v : Byte) : writeStat stat v = v.extractLsb' 3 5 ++ stat.extractLsb' 0 3 := by
  have halves (w : Byte) : w.extractLsb' 3 5 ++ w.extractLsb' 0 3 = w :=
    (BitVec.extractLsb'_append_extractLsb'_eq_extractLsb' rfl).trans BitVec.extractLsb'_eq_self
  calc writeStat stat v
      = (v.extractLsb' 3 5 ++ v.extractLsb' 0 3) &&& (BitVec.allOnes 5 ++ 0#3) |||
          (stat.extractLsb' 3 5 ++ stat.extractLsb' 0 3) &&& (0#5 ++ BitVec.allOnes 3) := by rw [halves, halves]; rfl
    _ = v.extractLsb' 3 5 ++ stat.extractLsb' 0 3 := by
      simp only [BitVec.and_append, BitVec.or_append, BitVec.and_allOnes, BitVec.and_zero, BitVec.or_zero, BitVec.zero_or]

/-- Settles O38: each register is a row of the I/O decode; TAC and `IF` have their unused bits set. -/
theorem ioReads : Obligations.IoReads := fun s =>
  ⟨rfl, rfl, rfl, rfl, rfl, readTac_eq_append s.timer, ifRead_eq_append s.iflag, rfl, rfl, rfl, rfl, rfl, rfl, rfl, rfl,
    rfl, rfl, rfl, rfl⟩

theorem write_stat (s : State) (v : Byte) :
    s.write 0xFF41 v = { s with lcd := { s.lcd with stat := writeStat s.lcd.stat v } } := rfl

/-- Settles O40: each register is a row of the I/O decode; STAT's mask is in the row. -/
theorem ioWrites : Obligations.IoWrites := fun s v =>
  ⟨rfl, rfl, rfl, rfl, by rw [write_stat, writeStat_eq_append], rfl, rfl, rfl, rfl, rfl, rfl, rfl, rfl, rfl, rfl⟩

theorem write_lcdc (s : State) (v : Byte) : s.write 0xFF40 v = s.writeLcdc v := rfl

/-- Settles O41: the edge of bit 7 selects one of the three outcomes of a write to LCDC. -/
theorem lcdSwitch : Obligations.LcdSwitch := by
  intro s v
  rw [write_lcdc, ← State.lcdOn]
  rcases writeLcdc_cases v s with ⟨e, h⟩ | ⟨e, hs, hv⟩ | ⟨e, hs, hv⟩
  · rw [e, h]
    exact ⟨fun _ => rfl, fun ⟨ht, hf⟩ => absurd (ht.symm.trans hf) (by decide),
      fun ⟨hf, ht⟩ => absurd (ht.symm.trans hf) (by decide)⟩
  · rw [e, hs, hv]
    exact ⟨nofun, fun _ => rfl, nofun⟩
  · rw [e, hs, hv]
    exact ⟨nofun, nofun, fun _ => rfl⟩

end Sys2Proof.Machine
end

section
/-! PROOFS. What a step never changes (00_scope section 4, 20_memory R52, R56, 10_state R19). -/

namespace Sys2Proof.Machine

/-- What a run from `s` to `t` leaves: the launch parameters, ROM and, with no mapper, the mapper's state are `s`'s, the CPU
is stopped if it was, and no frame is taken back. -/
def State.EvolvesTo (s t : State) : Prop :=
  t.cfg = s.cfg ∧ (s.cfg.mapper = .noMapper → t.mapperState = s.mapperState) ∧
  (∀ b < 0x8000, t.mem.read b = s.mem.read b) ∧ (s.ctl.stopped = true → t.ctl.stopped = true) ∧
  s.frameCount ≤ t.frameCount

theorem kept_evolvesTo (s : State) : Kept s.EvolvesTo where
  regs _ _ h := h
  ctl := by
    rintro t c hc ⟨hcfg, hmapper, hrom, hstopped, hframes⟩
    exact ⟨hcfg, hmapper, hrom, hc ∘ hstopped, hframes⟩
  cycles _ _ h := h
  write := by
    rintro t a v ⟨hcfg, hmapper, hrom, hstopped, hframes⟩
    refine ⟨?_, fun hm => ?_, fun b hb => ?_, ?_, ?_⟩
    · rw [write_cfg, hcfg]
    · rw [write_mapperState (hcfg ▸ hm), hmapper hm]
    · rw [write_rom a v t hb, hrom b hb]
    · rwa [write_ctl]
    · rwa [write_frameCount]

theorem tickDevices_evolvesTo {s t : State} (h : s.EvolvesTo t) : s.EvolvesTo t.tickDevices := by
  obtain ⟨hcfg, hmapper, hrom, hstopped, hframes⟩ := h
  obtain ⟨tcfg, -, tctl, -, tmem, -, -, -, -, -, -, tmapper, tframes⟩ := tickDevices_frame t
  rw [State.EvolvesTo, tcfg, tctl, tmem, tmapper]
  exact ⟨hcfg, hmapper, hrom, hstopped, hframes.trans tframes⟩

theorem step_evolvesTo {s t : State} (hs : step s = .next t) : s.EvolvesTo t :=
  step_kept (kept_evolvesTo s) (fun _ _ h => h) (fun _ _ h => h) (fun _ _ h => h) (fun _ h => tickDevices_evolvesTo h)
    ⟨rfl, fun _ => rfl, fun _ _ => rfl, id, le_refl _⟩ hs

/-- Settles O58: every part of a step keeps all of it, and with no mapper a read below 0x8000 is a byte of memory. -/
theorem stepNeverChanges : Obligations.StepNeverChanges := by
  intro s t hs
  obtain ⟨hcfg, hmapper, hrom, hstopped, hframes⟩ := step_evolvesTo hs
  refine ⟨hcfg, fun hm => ⟨hmapper hm, fun a ha => ?_⟩, hstopped, hframes⟩
  have hm' : t.cfg.mapper = .noMapper := hcfg ▸ hm
  rw [read_rom_of_noMapper hm' ha, read_rom_of_noMapper hm ha, hrom _ (by omega)]

end Sys2Proof.Machine
end

section
/-! PROOFS. What the rows of the decoder's tables decode to, and the row of every family of instructions at its fields
`x`, `y`, `z` (30_encoding R101 to R121). -/

namespace Sys2Proof

theorem decode_op {op : Byte} {i : Instr} (h : opcodeRow op = some (.op i)) (rest : List Byte) :
    decode (op :: rest) = .ok (i, rest) := by
  simp only [decode, h]

theorem decode_byte {op : Byte} {f : Byte → Instr} (h : opcodeRow op = some (.byte f)) (n : Byte) (rest : List Byte) :
    decode (op :: n :: rest) = .ok (f n, rest) := by
  simp only [decode, h]

theorem decode_word {op : Byte} {f : Word → Instr} (h : opcodeRow op = some (.word f)) (l u : Byte) (rest : List Byte) :
    decode (op :: l :: u :: rest) = .ok (f (wordOf u l), rest) := by
  simp only [decode, h]

/-- An operand word's two bytes, low byte first, decode back to the word (R103). -/
theorem decode_word_bytes {op : Byte} {f : Word → Instr} (h : opcodeRow op = some (.word f)) (a : Word) (rest : List Byte) :
    decode (op :: loByte a :: hiByte a :: rest) = .ok (f a, rest) := by
  rw [decode_word h, Machine.wordOf_hi_lo]

theorem opcodeRow_cb : opcodeRow 0xCB = some .cb := rfl

theorem decode_cb {op2 : Byte} {i : Instr} (h : cbRow op2 = some i) (rest : List Byte) :
    decode (0xCB :: op2 :: rest) = .ok (i, rest) := by
  simp only [decode, opcodeRow_cb, h]

/-! The rows of the families. -/

theorem opcodeRow_ldRR (dst src : Reg8) : opcodeRow (xyz 1 dst.code src.code) = some (.op (.ldRR dst src)) := by
  cases dst <;> cases src <;> rfl

theorem opcodeRow_ldRM (dst : Reg8) : opcodeRow (xyz 1 dst.code 6) = some (.op (.ldRM dst)) := by cases dst <;> rfl

theorem opcodeRow_ldMR (src : Reg8) : opcodeRow (xyz 1 6 src.code) = some (.op (.ldMR src)) := by cases src <;> rfl

theorem opcodeRow_ldRN8 (dst : Reg8) : opcodeRow (xyz 0 dst.code 6) = some (.byte (.ldRN8 dst)) := by cases dst <;> rfl

theorem opcodeRow_alu (op : AluOp) (x : Operand8) : opcodeRow (xyz 2 op.code x.code) = some (.op (.alu op x)) := by
  cases op <;> rcases x with (_ | _ | _ | _ | _ | _ | _) | _ <;> rfl

theorem opcodeRow_aluN8 (op : AluOp) : opcodeRow (xyz 3 op.code 6) = some (.byte (.aluN8 op)) := by cases op <;> rfl

theorem opcodeRow_incX (x : Operand8) : opcodeRow (xyz 0 x.code 4) = some (.op (.incX x)) := by
  rcases x with (_ | _ | _ | _ | _ | _ | _) | _ <;> rfl

theorem opcodeRow_decX (x : Operand8) : opcodeRow (xyz 0 x.code 5) = some (.op (.decX x)) := by
  rcases x with (_ | _ | _ | _ | _ | _ | _) | _ <;> rfl

theorem opcodeRow_ldRrN16 (p : Reg16) : opcodeRow (xyz 0 (2 * p.code) 1) = some (.word (.ldRrN16 p)) := by cases p <;> rfl

theorem opcodeRow_incRr (p : Reg16) : opcodeRow (xyz 0 (2 * p.code) 3) = some (.op (.incRr p)) := by cases p <;> rfl

theorem opcodeRow_decRr (p : Reg16) : opcodeRow (xyz 0 (2 * p.code + 1) 3) = some (.op (.decRr p)) := by cases p <;> rfl

theorem opcodeRow_addHlRr (p : Reg16) : opcodeRow (xyz 0 (2 * p.code + 1) 1) = some (.op (.addHlRr p)) := by cases p <;> rfl

theorem opcodeRow_push (p : StackReg) : opcodeRow (xyz 3 (2 * p.code) 5) = some (.op (.push p)) := by cases p <;> rfl

theorem opcodeRow_pop (p : StackReg) : opcodeRow (xyz 3 (2 * p.code) 1) = some (.op (.pop p)) := by cases p <;> rfl

theorem opcodeRow_jpCc (cc : Cond) : opcodeRow (xyz 3 cc.code 2) = some (.word (.jpCc cc)) := by cases cc <;> rfl

theorem opcodeRow_jrCc (cc : Cond) : opcodeRow (xyz 0 (4 + cc.code) 0) = some (.byte (.jrCc cc)) := by cases cc <;> rfl

theorem opcodeRow_callCc (cc : Cond) : opcodeRow (xyz 3 cc.code 4) = some (.word (.callCc cc)) := by cases cc <;> rfl

theorem opcodeRow_retCc (cc : Cond) : opcodeRow (xyz 3 cc.code 0) = some (.op (.retCc cc)) := by cases cc <;> rfl

theorem opcodeRow_rst (n : Fin 8) : opcodeRow (xyz 3 n.val 7) = some (.op (.rst n)) := by fin_cases n <;> rfl

theorem opcodeRow_illegal {op : Byte} {i : Instr} (h : (op, i) ∈ Instr.illegalRows) : opcodeRow op = some (.op i) := by
  have rows : ∀ r ∈ Instr.illegalRows, opcodeRow r.1 = some (.op r.2) := by
    simp only [Instr.illegalRows, List.forall_mem_cons, List.not_mem_nil, false_implies, implies_true, and_true]
    and_intros <;> rfl
  exact rows (op, i) h

theorem cbRow_rot (op : RotOp) (x : Operand8) : cbRow (xyz 0 op.code x.code) = some (.rot op x) := by
  cases op <;> rcases x with (_ | _ | _ | _ | _ | _ | _) | _ <;> rfl

theorem cbRow_bit (b : Fin 8) (x : Operand8) : cbRow (xyz 1 b.val x.code) = some (.bit b x) := by
  fin_cases b <;> rcases x with (_ | _ | _ | _ | _ | _ | _) | _ <;> rfl

theorem cbRow_res (b : Fin 8) (x : Operand8) : cbRow (xyz 2 b.val x.code) = some (.res b x) := by
  fin_cases b <;> rcases x with (_ | _ | _ | _ | _ | _ | _) | _ <;> rfl

theorem cbRow_set (b : Fin 8) (x : Operand8) : cbRow (xyz 3 b.val x.code) = some (.set b x) := by
  fin_cases b <;> rcases x with (_ | _ | _ | _ | _ | _ | _) | _ <;> rfl

end Sys2Proof
end

section
/-! PROOFS. Decoding and encoding are inverse: a row's instruction encodes to the bytes that select the row, and every
instruction but the lone `CB` byte is some row's (30_encoding R100, R114). -/

namespace Sys2Proof

theorem encodesTo_of_opcodeRow {op : Byte} {r : Row} (h : opcodeRow op = some r) : r.encodesTo op := by
  obtain ⟨r', hr, he⟩ := opcodeRow_encodesTo op
  obtain rfl : r' = r := Option.some.inj (hr.symm.trans h)
  exact he

theorem encode_of_cbRow {op2 : Byte} {i : Instr} (h : cbRow op2 = some i) : encode i = [0xCB, op2] := by
  obtain ⟨j, hj, he⟩ := cbRow_encode op2
  obtain rfl : j = i := Option.some.inj (hj.symm.trans h)
  exact he

theorem decode_encode_of_op {op : Byte} {i : Instr} (h : opcodeRow op = some (.op i)) (rest : List Byte) :
    decode (encode i ++ rest) = .ok (i, rest) := by
  have he : encode i = [op] := encodesTo_of_opcodeRow h
  rw [he]
  exact decode_op h rest

theorem decode_encode_of_byte {op : Byte} {f : Byte → Instr} (h : opcodeRow op = some (.byte f)) (n : Byte)
    (rest : List Byte) : decode (encode (f n) ++ rest) = .ok (f n, rest) := by
  have he : encode (f n) = [op, n] := encodesTo_of_opcodeRow h n
  rw [he]
  exact decode_byte h n rest

theorem decode_encode_of_word {op : Byte} {f : Word → Instr} (h : opcodeRow op = some (.word f)) (a : Word)
    (rest : List Byte) : decode (encode (f a) ++ rest) = .ok (f a, rest) := by
  have he : encode (f a) = [op, loByte a, hiByte a] := encodesTo_of_opcodeRow h a
  rw [he]
  exact decode_word_bytes h a rest

theorem decode_encode_of_cb {op2 : Byte} {i : Instr} (h : cbRow op2 = some i) (rest : List Byte) :
    decode (encode i ++ rest) = .ok (i, rest) := by
  rw [encode_of_cbRow h]
  exact decode_cb h rest

theorem decode_encode {i : Instr} (hi : i ≠ .prefix_CB) (rest : List Byte) : decode (encode i ++ rest) = .ok (i, rest) := by
  cases i using Instr.byFamily
  case prefix_CB => exact absurd rfl hi
  -- instructions with an opcode of their own
  case nop | halt | di | ei | ld_A_mBC | ld_A_mDE | ldh_A_mC | ld_mBC_A | ld_mDE_A | ldh_mC_A | ld_A_mHLi | ld_A_mHLd |
      ld_mHLi_A | ld_mHLd_A | daa | cpl | scf | ccf | ld_SP_HL | rlca | rrca | rla | rra | jp_HL | ret | reti => rfl
  case stop | ld_mHL_n8 | ldh_A_ma8 | ldh_ma8_A | ld_HL_SPe8 | add_SP_e8 | jr_e8 => rfl
  case ld_A_ma16 a => exact decode_encode_of_word (op := 0xFA) (f := .ld_A_ma16) rfl a rest
  case ld_ma16_A a => exact decode_encode_of_word (op := 0xEA) (f := .ld_ma16_A) rfl a rest
  case ld_ma16_SP a => exact decode_encode_of_word (op := 0x08) (f := .ld_ma16_SP) rfl a rest
  case jp_a16 a => exact decode_encode_of_word (op := 0xC3) (f := .jp_a16) rfl a rest
  case call_a16 a => exact decode_encode_of_word (op := 0xCD) (f := .call_a16) rfl a rest
  -- families
  case ldRR dst src => exact decode_encode_of_op (opcodeRow_ldRR dst src) rest
  case ldRM dst => exact decode_encode_of_op (opcodeRow_ldRM dst) rest
  case ldMR src => exact decode_encode_of_op (opcodeRow_ldMR src) rest
  case ldRN8 dst n => exact decode_encode_of_byte (opcodeRow_ldRN8 dst) n rest
  case alu op x => exact decode_encode_of_op (opcodeRow_alu op x) rest
  case aluN8 op n => exact decode_encode_of_byte (opcodeRow_aluN8 op) n rest
  case incX x => exact decode_encode_of_op (opcodeRow_incX x) rest
  case decX x => exact decode_encode_of_op (opcodeRow_decX x) rest
  case ldRrN16 p n => exact decode_encode_of_word (opcodeRow_ldRrN16 p) n rest
  case incRr p => exact decode_encode_of_op (opcodeRow_incRr p) rest
  case decRr p => exact decode_encode_of_op (opcodeRow_decRr p) rest
  case addHlRr p => exact decode_encode_of_op (opcodeRow_addHlRr p) rest
  case push p => exact decode_encode_of_op (opcodeRow_push p) rest
  case pop p => exact decode_encode_of_op (opcodeRow_pop p) rest
  case jpCc cc a => exact decode_encode_of_word (opcodeRow_jpCc cc) a rest
  case jrCc cc e => exact decode_encode_of_byte (opcodeRow_jrCc cc) e rest
  case callCc cc a => exact decode_encode_of_word (opcodeRow_callCc cc) a rest
  case retCc cc => exact decode_encode_of_op (opcodeRow_retCc cc) rest
  case rst n => exact decode_encode_of_op (opcodeRow_rst n) rest
  case illegal op h => exact decode_encode_of_op (opcodeRow_illegal h) rest
  case rot op x => exact decode_encode_of_cb (cbRow_rot op x) rest
  case bit b x => exact decode_encode_of_cb (cbRow_bit b x) rest
  case res b x => exact decode_encode_of_cb (cbRow_res b x) rest
  case set b x => exact decode_encode_of_cb (cbRow_set b x) rest

theorem wellFormed_iff {i : Instr} : i.wellFormed = true ↔ i ≠ .prefix_CB := decide_eq_true_iff

/-- Settles O2: every family's row builds its instructions, and what a row builds encodes to the bytes that select it. -/
theorem decodeInvertsEncode : Obligations.DecodeInvertsEncode :=
  fun _ rest hi => decode_encode (wellFormed_iff.mp hi) rest

theorem encode_append_of_decode {bytes rest : List Byte} {i : Instr} (h : decode bytes = .ok (i, rest)) :
    encode i ++ rest = bytes := by
  rcases bytes with _ | ⟨op, tl⟩
  · cases h
  obtain ⟨r, hr, he⟩ := opcodeRow_encodesTo op
  simp only [decode, hr] at h
  cases r with
  | op j =>
    cases h
    exact congrArg (· ++ rest) he
  | byte f =>
    rcases tl with _ | ⟨n, tl⟩
    · cases h
    cases h
    exact congrArg (· ++ rest) (he n)
  | word f =>
    rcases tl with _ | ⟨l, _ | ⟨u, tl⟩⟩
    · cases h
    · cases h
    cases h
    rw [he, Machine.loByte_wordOf, Machine.hiByte_wordOf]
    rfl
  | cb =>
    obtain rfl : op = 0xCB := he
    rcases tl with _ | ⟨op2, tl⟩
    · cases h
      rfl
    obtain ⟨j, hj, hje⟩ := cbRow_encode op2
    simp only [hj] at h
    cases h
    exact congrArg (· ++ rest) hje

/-- Settles O3: the opcode's row fixes how the bytes were read, and what it builds encodes to them. -/
theorem encodeInvertsDecode : Obligations.EncodeInvertsDecode :=
  fun _ _ _ => encode_append_of_decode

end Sys2Proof
end

section
/-! PROOFS. Every opcode is assigned and fixes the length; the illegal opcodes; sample words (30_encoding R100, R113,
R114). -/

namespace Sys2Proof

/-- Two bytes never decode to the lone `CB` byte, which takes the one after it. -/
theorem wellFormed_of_decode {op b : Byte} {tl rest : List Byte} {i : Instr} (h : decode (op :: b :: tl) = .ok (i, rest)) :
    i.wellFormed = true := by
  refine wellFormed_iff.mpr ?_
  rintro rfl
  have hbytes : 0xCB :: rest = op :: b :: tl := encode_append_of_decode h
  obtain ⟨rfl, rfl⟩ := List.cons.inj hbytes
  obtain ⟨j, hj, -⟩ := cbRow_encode b
  rw [decode_cb hj] at h
  have htl : tl = b :: tl := congrArg Prod.snd (Except.ok.inj h)
  exact absurd htl.symm (List.cons_ne_self b tl)

/-- How many bytes a row reads after the opcode. -/
def Row.operandBytes : Row → Nat
  | .op _ => 0
  | .byte _ => 1
  | .word _ => 2
  | .cb => 1

theorem decode_three_of_opcodeRow {op : Byte} {r : Row} (h : opcodeRow op = some r) (b c : Byte) :
    ∃ (i : Instr) (rest : List Byte), decode [op, b, c] = .ok (i, rest) ∧ rest.length = 2 - r.operandBytes := by
  cases r with
  | op i => exact ⟨i, [b, c], decode_op h _, rfl⟩
  | byte f => exact ⟨f b, [c], decode_byte h b _, rfl⟩
  | word f => exact ⟨f (wordOf c b), [], decode_word h b c _, rfl⟩
  | cb =>
    obtain rfl : op = 0xCB := encodesTo_of_opcodeRow h
    obtain ⟨i, hi, -⟩ := cbRow_encode b
    exact ⟨i, [c], decode_cb hi _, rfl⟩

/-- Settles O4: every opcode has a row, and the row fixes how many operand bytes are read. -/
theorem everyOpcodeDecodes : Obligations.EveryOpcodeDecodes := by
  refine ⟨fun op b c => ?_, fun op2 rest => ?_⟩
  · obtain ⟨r, hr, -⟩ := opcodeRow_encodesTo op
    obtain ⟨i, rest, hd, hlen⟩ := decode_three_of_opcodeRow hr b c
    refine ⟨i, rest, hd, wellFormed_of_decode hd, by omega, fun b' c' => ?_⟩
    obtain ⟨j, rest', hd', hlen'⟩ := decode_three_of_opcodeRow hr b' c'
    exact ⟨j, rest', hd', hlen'.trans hlen.symm⟩
  · obtain ⟨i, hi, -⟩ := cbRow_encode op2
    have hd := decode_cb hi rest
    exact ⟨i, hd, wellFormed_of_decode hd⟩

/-- Settles O1: each word's table row is looked up by evaluation. -/
theorem decodeSampleWords : Obligations.DecodeSampleWords := by
  unfold Obligations.DecodeSampleWords
  and_intros <;> rfl

/-- The default set is the illegal rows' bytes. -/
theorem default_illegalOpcodes : Config.default.illegalOpcodes = Instr.illegalRows.map Prod.fst := rfl

/-- Settles O31: an illegal byte has a row of its own, whose meaning asks only whether the set holds the byte. -/
theorem illegalOpcodes : Obligations.IllegalOpcodes := by
  refine ⟨rfl, fun op i h rest s => ⟨decode_op (opcodeRow_illegal h) rest, ?_, fun hin => ?_, fun hout => ?_⟩⟩
  · rw [default_illegalOpcodes]
    exact List.mem_map_of_mem h
  · rw [Machine.exec_illegal h, Machine.illegalOpcode, if_pos hin]
    rfl
  · rw [Machine.exec_illegal h, Machine.illegalOpcode, if_neg hout]

end Sys2Proof
end

section
/-! PROOFS. The 8-bit loads (40_loads8 R131 to R149): each form's opcode row gives its encoding, and its meaning is one
register write or one bus write, with `HL` moved by one in the last four. -/

namespace Sys2Proof.Machine

/-- Settles O6: the rows and the meanings of the two register families. -/
theorem loadRegister : Obligations.LoadRegister := fun dst src n rest s =>
  ⟨decode_op (opcodeRow_ldRR dst src) rest, exec_ldRR dst src s,
    decode_byte (opcodeRow_ldRN8 dst) n rest, exec_ldRN8 dst n s⟩

/-- Settles O7: apart from `LD r,(HL)`, every form loads `A` from its own address (`ldAMem`). -/
theorem loadFromMemory : Obligations.LoadFromMemory := fun dst n a rest s =>
  ⟨decode_op (opcodeRow_ldRM dst) rest, exec_ldRM dst s,
    decode_op rfl rest, exec_ld_A_mBC s,
    decode_op rfl rest, exec_ld_A_mDE s,
    decode_word_bytes rfl a rest, exec_ld_A_ma16 a s,
    decode_op rfl rest, exec_ldh_A_mC s,
    decode_byte rfl n rest, exec_ldh_A_ma8 n s⟩

/-- Settles O8: apart from the two stores at `HL`, every form stores `A` at its own address (`ldMemA`); a bus write keeps
the registers and the flip-flops by `write_frame`. -/
theorem storeToMemory : Obligations.StoreToMemory := fun src n a rest s =>
  ⟨decode_op (opcodeRow_ldMR src) rest, exec_ldMR src s,
    decode_byte rfl n rest, exec_ld_mHL_n8 n s,
    decode_op rfl rest, exec_ld_mBC_A s,
    decode_op rfl rest, exec_ld_mDE_A s,
    decode_word_bytes rfl a rest, exec_ld_ma16_A a s,
    decode_op rfl rest, exec_ldh_mC_A s,
    decode_byte rfl n rest, exec_ldh_ma8_A n s,
    fun b v => ⟨write_regs b v s, write_ctl b v s⟩⟩

/-- Settles O9: the model moves `HL` by adding 1 or -1, and adding -1 modulo 2^16 is subtracting 1. -/
theorem loadHlStep : Obligations.LoadHlStep := by
  intro rest s hl
  have hdec : hl - 1 = hl + -1 := sub_eq_add_neg hl 1
  rw [hdec]
  exact ⟨decode_op rfl rest, exec_ld_A_mHLd s,
    decode_op rfl rest, exec_ld_mHLd_A s,
    decode_op rfl rest, exec_ld_A_mHLi s,
    decode_op rfl rest, exec_ld_mHLi_A s⟩

end Sys2Proof.Machine
end

section
/-! PROOFS. 8-bit arithmetic and logic (41_alu8 R160 to R192): the state after an ALU operation, after `INC` and `DEC`, and
`DAA` as one correction; `DAA` after a sum or a difference of packed-BCD bytes gives the decimal one. -/

namespace Sys2Proof.Machine

theorem formCycles_eq_ite (reg mHL : Nat) (x : Operand8) : formCycles reg mHL x = if x = .mHL then mHL else reg := by
  cases x <;> rfl

theorem carry_eq_toNat (c : Bool) : (if c then 1 else 0) = c.toNat := by cases c <;> rfl

/-! The ALU operations on `A`. -/

/-- Settles O10: `add8` is the sum of the rule, with the old carry as a number. -/
theorem addAndAdc : Obligations.AddAndAdc := by
  intro x n rest s a carry after
  have hcarry : carry = s.regs.flags.c.toNat := carry_eq_toNat _
  rw [hcarry, ← formCycles_eq_ite]
  exact ⟨decode_op (opcodeRow_alu .add x) rest, exec_alu .add x s, decode_byte rfl n rest, exec_aluN8 .add n s,
    decode_op (opcodeRow_alu .adc x) rest, exec_alu .adc x s, decode_byte rfl n rest, exec_aluN8 .adc n s⟩

/-- Settles O11: `sub8` is the difference of the rule; `CP` has the flags of `SUB` and writes `A` back as it was. -/
theorem subSbcAndCp : Obligations.SubSbcAndCp := by
  intro x n rest s a carry flags after compared
  have hcarry : carry = s.regs.flags.c.toNat := carry_eq_toNat _
  rw [hcarry, ← formCycles_eq_ite]
  exact ⟨decode_op (opcodeRow_alu .sub x) rest, exec_alu .sub x s, decode_byte rfl n rest, exec_aluN8 .sub n s,
    decode_op (opcodeRow_alu .sbc x) rest, exec_alu .sbc x s, decode_byte rfl n rest, exec_aluN8 .sbc n s,
    decode_op (opcodeRow_alu .cp x) rest, exec_alu .cp x s, decode_byte rfl n rest, exec_aluN8 .cp n s⟩

/-- Settles O12: the bitwise results of `aluResult`, with `logicFlags`. -/
theorem andXorAndOr : Obligations.AndXorAndOr := by
  intro x n rest s a after
  rw [← formCycles_eq_ite]
  exact ⟨decode_op (opcodeRow_alu .and x) rest, exec_alu .and x s, decode_byte rfl n rest, exec_aluN8 .and n s,
    decode_op (opcodeRow_alu .xor x) rest, exec_alu .xor x s, decode_byte rfl n rest, exec_aluN8 .xor n s,
    decode_op (opcodeRow_alu .or x) rest, exec_alu .or x s, decode_byte rfl n rest, exec_aluN8 .or n s⟩

/-! `INC`, `DEC` and the one-byte operations on `A` and the flags. -/

/-- Adding 255 modulo 2^8 is subtracting 1. -/
theorem ofNat_toNat_add_255 (v : Byte) : BitVec.ofNat 8 (v.toNat + 255) = v - 1 := by bv_omega

/-- Settles O13: one write of the operand, then one of the flags, with the values of `inc8` and `dec8`. -/
theorem incAndDec : Obligations.IncAndDec := by
  intro x rest s v after
  simp only [after, ofNat_toNat_add_255, ← formCycles_eq_ite]
  exact ⟨decode_op (opcodeRow_incX x) rest, exec_incX x s, decode_op (opcodeRow_decX x) rest, exec_decX x s⟩

/-- Settles O15: each has an opcode of its own and is one write of the flags, `CPL` after one of `A`. -/
theorem complementAndCarryFlag : Obligations.ComplementAndCarryFlag := fun rest s =>
  ⟨decode_op rfl rest, exec_cpl s, decode_op rfl rest, exec_scf s, decode_op rfl rest, exec_ccf s⟩

/-! `DAA` as one correction, added or subtracted (R189). -/

/-- Whether `DAA` corrects the high digit. -/
def daaHigh (a : Byte) (f : Flags) : Bool := f.c || (!f.n && decide (a.toNat > 0x99))

/-- Whether `DAA` corrects the low digit. -/
def daaLow (a : Byte) (f : Flags) : Bool := f.h || (!f.n && decide (a.toNat % 16 > 9))

/-- What `DAA` adds after an addition and subtracts after a subtraction. -/
def daaCorrection (a : Byte) (f : Flags) : Byte :=
  (if daaHigh a f then 0x60 else 0) + (if daaLow a f then 0x06 else 0)

/-- The `A` that `DAA` leaves. -/
def daaValue (a : Byte) (f : Flags) : Byte := if f.n then a - daaCorrection a f else a + daaCorrection a f

theorem daaAfterAdd_eq (a : Byte) {f : Flags} (hn : f.n = false) : daaAfterAdd a f = (a + daaCorrection a f, daaHigh a f) := by
  simp only [daaAfterAdd, daaCorrection, daaHigh, daaLow, hn, Bool.not_false, Bool.true_and]
  split <;> split <;> simp [add_assoc]

theorem daaAfterSub_eq (a : Byte) {f : Flags} (hn : f.n = true) : daaAfterSub a f = (a - daaCorrection a f, daaHigh a f) := by
  simp only [daaAfterSub, daaCorrection, daaHigh, daaLow, hn, Bool.not_true, Bool.false_and, Bool.or_false]
  split <;> split <;> simp [sub_sub]

/-- The model's two steps, for the low digit and for the high one, are one correction. -/
theorem daa8_eq (a : Byte) (f : Flags) : daa8 a f =
    (daaValue a f, { z := decide (daaValue a f = 0), n := f.n, h := false, c := daaHigh a f }) := by
  cases hn : f.n with
  | false => simp [daa8, daaValue, hn, daaAfterAdd_eq a hn]
  | true => simp [daa8, daaValue, hn, daaAfterSub_eq a hn]

theorem daaA_eq (s : State) : daaA s = .next { s with
    regs := { s.regs with
      a := daaValue s.regs.a s.regs.flags
      flags := { z := decide (daaValue s.regs.a s.regs.flags = 0), n := s.regs.flags.n, h := false,
                 c := daaHigh s.regs.a s.regs.flags } }
    cycles := 4 } := by
  rw [daaA, daa8_eq]
  rfl

/-- Settles O14: the rule's single correction is `daaValue`. -/
theorem decimalAdjust : Obligations.DecimalAdjust := fun rest s => ⟨decode_op rfl rest, daaA_eq s⟩

/-! `DAA` after a sum or a difference of packed-BCD bytes. -/

theorem daaCorrection_toNat (a : Byte) (f : Flags) :
    (daaCorrection a f).toNat = (if daaHigh a f then 0x60 else 0) + (if daaLow a f then 0x06 else 0) := by
  unfold daaCorrection
  split <;> split <;> rfl

/-- After `add8`, `DAA` corrects the low digit when the ones carry and the high digit when the decimal sum passes 99. -/
theorem daa_add8_digits {a v : Byte} (ha : isBcd a) (hv : isBcd v) (c : Bool) :
    (daaLow (add8 a v c).1 (add8 a v c).2 = true ↔ 9 < a.toNat % 16 + v.toNat % 16 + c.toNat) ∧
    (daaHigh (add8 a v c).1 (add8 a v c).2 = true ↔ 99 < bcdValue a + bcdValue v + c.toNat) := by
  obtain ⟨ha1, ha0⟩ := ha
  obtain ⟨hv1, hv0⟩ := hv
  have hc := c.toNat_le
  simp only [daaLow, daaHigh, add8, bcdValue, BitVec.toNat_ofNat, Bool.or_eq_true, Bool.not_false, Bool.true_and,
    decide_eq_true_eq]
  constructor <;> omega

/-- After `add8` of packed-BCD bytes, `DAA` adds 6 where the ones carry and takes 10 off the tens where the decimal sum
passes 99: adding 0x60 modulo 2^8 is subtracting 10 * 16. -/
theorem daaValue_add8_toNat {a v : Byte} (ha : isBcd a) (hv : isBcd v) (c : Bool) :
    (daaValue (add8 a v c).1 (add8 a v c).2).toNat + (if 99 < bcdValue a + bcdValue v + c.toNat then 160 else 0) =
      a.toNat + v.toNat + c.toNat + (if 9 < a.toNat % 16 + v.toNat % 16 + c.toNat then 6 else 0) := by
  obtain ⟨hlow, hhigh⟩ := daa_add8_digits ha hv c
  obtain ⟨ha1, ha0⟩ := ha
  obtain ⟨hv1, hv0⟩ := hv
  have hc := c.toNat_le
  have hvalue : (daaValue (add8 a v c).1 (add8 a v c).2).toNat =
      (a.toNat + v.toNat + c.toNat + (daaCorrection (add8 a v c).1 (add8 a v c).2).toNat) % 256 := by
    simp [daaValue, add8]
  unfold bcdValue at hhigh ⊢
  simp only [daaCorrection_toNat, hlow, hhigh] at hvalue
  revert hvalue
  split <;> split <;> intro hvalue <;> omega

/-- The packed-BCD sum: no digit is left above 9, and what `DAA` took off is the decimal carry. -/
theorem daa_add8 {a v : Byte} (ha : isBcd a) (hv : isBcd v) (c : Bool) :
    isBcd (daaValue (add8 a v c).1 (add8 a v c).2) ∧
    bcdValue (daaValue (add8 a v c).1 (add8 a v c).2) + (if daaHigh (add8 a v c).1 (add8 a v c).2 then 100 else 0) =
      bcdValue a + bcdValue v + c.toNat := by
  have hvalue := daaValue_add8_toNat ha hv c
  simp only [(daa_add8_digits ha hv c).2]
  obtain ⟨ha1, ha0⟩ := ha
  obtain ⟨hv1, hv0⟩ := hv
  have hc := c.toNat_le
  unfold isBcd bcdValue at *
  revert hvalue
  split <;> split <;> intro hvalue <;> omega

/-- After `sub8`, `DAA` corrects the low digit when the ones borrow and the high digit when the whole difference does. -/
theorem daa_sub8_digits {a v : Byte} (ha : isBcd a) (hv : isBcd v) (c : Bool) :
    (daaLow (sub8 a v c).1 (sub8 a v c).2 = true ↔ a.toNat % 16 < v.toNat % 16 + c.toNat) ∧
    (daaHigh (sub8 a v c).1 (sub8 a v c).2 = true ↔ bcdValue a < bcdValue v + c.toNat) := by
  obtain ⟨ha1, ha0⟩ := ha
  obtain ⟨hv1, hv0⟩ := hv
  have hc := c.toNat_le
  simp only [daaLow, daaHigh, sub8, bcdValue, Bool.or_false, Bool.not_true, Bool.false_and, decide_eq_true_eq, true_and]
  omega

/-- After `sub8` of packed-BCD bytes, `DAA` takes off 6 where the ones borrow and puts 10 on the tens where the whole
difference does. -/
theorem daaValue_sub8_toNat {a v : Byte} (ha : isBcd a) (hv : isBcd v) (c : Bool) :
    (daaValue (sub8 a v c).1 (sub8 a v c).2).toNat + v.toNat + c.toNat +
        (if a.toNat % 16 < v.toNat % 16 + c.toNat then 6 else 0) =
      a.toNat + (if bcdValue a < bcdValue v + c.toNat then 160 else 0) := by
  obtain ⟨hlow, hhigh⟩ := daa_sub8_digits ha hv c
  obtain ⟨ha1, ha0⟩ := ha
  obtain ⟨hv1, hv0⟩ := hv
  have hc := c.toNat_le
  have hvalue : ((daaValue (sub8 a v c).1 (sub8 a v c).2).toNat + v.toNat + c.toNat +
      (daaCorrection (sub8 a v c).1 (sub8 a v c).2).toNat) % 256 = a.toNat := by
    simp only [daaValue, if_true, sub8, BitVec.toNat_sub, BitVec.toNat_ofInt]
    omega
  unfold bcdValue at hhigh ⊢
  simp only [daaCorrection_toNat, hlow, hhigh] at hvalue
  revert hvalue
  split <;> split <;> intro hvalue <;> omega

/-- The packed-BCD difference: no digit is left above 9, and what `DAA` put on is the decimal borrow. -/
theorem daa_sub8 {a v : Byte} (ha : isBcd a) (hv : isBcd v) (c : Bool) :
    isBcd (daaValue (sub8 a v c).1 (sub8 a v c).2) ∧
    bcdValue (daaValue (sub8 a v c).1 (sub8 a v c).2) + bcdValue v + c.toNat =
      bcdValue a + (if daaHigh (sub8 a v c).1 (sub8 a v c).2 then 100 else 0) := by
  have hvalue := daaValue_sub8_toNat ha hv c
  simp only [(daa_sub8_digits ha hv c).2]
  obtain ⟨ha1, ha0⟩ := ha
  obtain ⟨hv1, hv0⟩ := hv
  have hc := c.toNat_le
  unfold isBcd bcdValue at *
  revert hvalue
  split <;> split <;> intro hvalue <;> omega

/-- Settles O16: `ADD` and `SUB` are `add8` and `sub8` without the carry, `ADC` and `SBC` with it. -/
theorem decimalArithmetic : Obligations.DecimalArithmetic := by
  intro s q ha hq carry
  have hcarry : carry = s.regs.flags.c.toNat := carry_eq_toNat _
  rw [hcarry]
  constructor
  · rintro op (rfl | rfl)
    · obtain ⟨hbcd, hsum⟩ := daa_add8 ha hq false
      exact ⟨_, _, exec_aluN8 .add q s, daaA_eq _, hbcd, rfl, hsum⟩
    · obtain ⟨hbcd, hsum⟩ := daa_add8 ha hq s.regs.flags.c
      exact ⟨_, _, exec_aluN8 .adc q s, daaA_eq _, hbcd, rfl, hsum⟩
  · rintro op (rfl | rfl)
    · obtain ⟨hbcd, hdiff⟩ := daa_sub8 ha hq false
      exact ⟨_, _, exec_aluN8 .sub q s, daaA_eq _, hbcd, rfl, hdiff⟩
    · obtain ⟨hbcd, hdiff⟩ := daa_sub8 ha hq s.regs.flags.c
      exact ⟨_, _, exec_aluN8 .sbc q s, daaA_eq _, hbcd, rfl, hdiff⟩

end Sys2Proof.Machine
end

section
/-! PROOFS. 16-bit loads, the stack and 16-bit arithmetic (42_loads16_alu16 R210 to R220): the model's word sums are the
rules' sums narrowed to 16 bits, and a word pushed onto two bytes of storage is the word on top of the stack. -/

namespace Sys2Proof.Machine

/-! Loads and the sums with a signed operand byte. -/

/-- Settles O17: the two bytes after the opcode are the word, low byte first. -/
theorem loadPair : Obligations.LoadPair := fun p lo hi rest s =>
  ⟨decode_word (opcodeRow_ldRrN16 p) lo hi rest, exec_ldRrN16 p (hi ++ lo) s, decode_op rfl rest, exec_ld_SP_HL s⟩

/-- Settles O18: `ldMemSp` makes the two writes in the rule's order. -/
theorem storeStackPointer : Obligations.StoreStackPointer := fun a rest s =>
  ⟨decode_word_bytes rfl a rest, exec_ld_ma16_SP a s⟩

/-- Adding the sign-extended byte modulo 2^16 is adding its signed value (R220). -/
theorem add_sext16 (w : Word) (e : Byte) : w + sext16 e = BitVec.ofInt 16 (w.toNat + e.toInt) := by
  rw [BitVec.ofInt_add, BitVec.ofInt_natCast, BitVec.ofNat_toNat, BitVec.setWidth_eq]
  rfl

/-- Settles O19: `spPlusE8` has the rule's flags, and its sum is the signed one. -/
theorem stackPointerOffset : Obligations.StackPointerOffset := by
  intro e rest s sp r f
  have hr : spPlusE8 sp e = (r, f) := congrArg (·, f) (add_sext16 sp e)
  refine ⟨decode_byte rfl e rest, ?_, decode_byte rfl e rest, ?_⟩
  · rw [exec_ld_HL_SPe8, ldHlSpE8, hr]
    rfl
  · rw [exec_add_SP_e8, addSpE8, hr]
    rfl

/-! Arithmetic on pairs. -/

theorem add_one_eq_ofNat (w : Word) : w + 1 = BitVec.ofNat 16 (w.toNat + 1) := by bv_omega

theorem sub_one_eq_ofInt (w : Word) : w - 1 = BitVec.ofInt 16 (w.toNat - 1) := by
  rw [sub_eq_add_neg, sub_eq_add_neg, BitVec.ofInt_add, BitVec.ofInt_natCast, BitVec.ofNat_toNat, BitVec.setWidth_eq]
  rfl

/-- Settles O22: the model adds and subtracts words; `addHl` is already the sum of the rule. -/
theorem pairArithmetic : Obligations.PairArithmetic := by
  intro p rest s a v
  rw [← add_one_eq_ofNat, ← sub_one_eq_ofInt]
  exact ⟨decode_op (opcodeRow_incRr p) rest, exec_incRr p s, decode_op (opcodeRow_decRr p) rest, exec_decRr p s,
    decode_op (opcodeRow_addHlRr p) rest, exec_addHlRr p s⟩

/-! The stack. -/

/-- What a push leaves, as the two bus writes and then the write of `SP` (R213). -/
theorem push16_eq_setSp (v : Word) (s : State) : s.push16 v =
    State.setSp (s.regs.sp - 2) ((s.write (s.regs.sp - 1) (hiByte v)).write (s.regs.sp - 2) (loByte v)) := by
  rw [push16_eq, State.setSp, write_regs, write_regs]

/-- Settles O20: `push16` is its two writes and `SP`; `popPair` reads as the rule does. -/
theorem pushAndPop : Obligations.PushAndPop := by
  intro p rest s v
  refine ⟨decode_op (opcodeRow_push p) rest, ?_, decode_op (opcodeRow_pop p) rest, exec_pop p s⟩
  rw [exec_push, pushPair, push16_eq_setSp]
  rfl

theorem echo_bounds {a : Word} (h : region a = .echo) : 0xE000 ≤ a.toNat ∧ a.toNat ≤ 0xFDFF := by
  have hbounds := region_bounds a
  rwa [h] at hbounds

/-- Neighbouring addresses are stored under different numbers, also where work RAM meets echo RAM. -/
theorem storageAddress_sub_one_ne (a : Word) : storageAddress (a - 1) ≠ storageAddress a := by
  have hsub : (a - 1).toNat = (a.toNat + 0xFFFF) % 0x10000 := by bv_omega
  by_cases hprev : region (a - 1) = .echo <;> by_cases ha : region a = .echo
  · rw [storageAddress_of_echo hprev, storageAddress_of_echo ha]
    have := echo_bounds hprev
    have := echo_bounds ha
    omega
  · rw [storageAddress_of_echo hprev, storageAddress_of_ne_echo ha]
    have := echo_bounds hprev
    omega
  · rw [storageAddress_of_ne_echo hprev, storageAddress_of_echo ha]
    have := echo_bounds ha
    omega
  · rw [storageAddress_of_ne_echo hprev, storageAddress_of_ne_echo ha]
    omega

theorem stackTop_withCycles (n : Nat) (s : State) : State.stackTop { s with cycles := n } = s.stackTop := rfl

theorem stackTop_setSp (a : Word) (s : State) : (s.setSp a).stackTop = wordOf (s.read (a + 1)) (s.read a) := rfl

/-- On two bytes of storage the word on top of the stack is the one just pushed. -/
theorem stackTop_push16 {s : State} (h1 : s.storesByte (s.regs.sp - 1) = true) (h2 : s.storesByte (s.regs.sp - 2) = true)
    (v : Word) : (s.push16 v).stackTop = v := by
  have hnext : s.regs.sp - 2 + 1 = s.regs.sp - 1 := by bv_omega
  have hprev : s.regs.sp - 2 = s.regs.sp - 1 - 1 := by bv_omega
  have hne : storageAddress (s.regs.sp - 1) ≠ storageAddress (s.regs.sp - 2) :=
    hprev ▸ (storageAddress_sub_one_ne (s.regs.sp - 1)).symm
  have h2' : (s.store (storageAddress (s.regs.sp - 1)) (hiByte v)).storesByte (s.regs.sp - 2) = true :=
    (storesByte_store _ _ s _).trans h2
  rw [push16_eq_setSp, stackTop_setSp, write_storesByte h1, write_storesByte h2', hnext,
    read_store_of_storesByte h2', if_neg hne, read_store_of_storesByte h1, if_pos rfl,
    read_store_of_storesByte h2', if_pos rfl, wordOf_hi_lo]

/-- What a pair of `rs[p]` gives back of a word written to it. -/
theorem getStackPair_setStackPair_self (p : StackReg) (v : Word) (s : State) :
    (s.setStackPair p v).getStackPair p = if p = .af then v &&& 0xFFF0 else v := by
  cases p with
  | af => exact getStackPair_setStackPair_af v s
  | bc => exact getPair_setPair_self .bc v s
  | de => exact getPair_setPair_self .de v s
  | hl => exact getPair_setPair_self .hl v s

/-- Where the flags lie in a word written to `AF` (92_eei D27). -/
theorem Flags.ofByte_loByte (v : Word) :
    Flags.ofByte (loByte v) = { z := v.getLsbD 7, n := v.getLsbD 6, h := v.getLsbD 5, c := v.getLsbD 4 } := by
  simp [Flags.ofByte, loByte]

/-- Settles O21: `POP` writes the pair with the top of the stack, which is the word pushed, and takes back the 2 from `SP`. -/
theorem popGivesBackPush : Obligations.PopGivesBackPush := by
  intro p q s h1 h2
  let t : State := { s.push16 (s.getStackPair p) with cycles := 16 }
  have htop : t.stackTop = s.getStackPair p := (stackTop_withCycles 16 _).trans (stackTop_push16 h1 h2 _)
  let u : State := { t.popped.setStackPair q t.stackTop with cycles := 12 }
  have hpush : exec (.push p) s = .next t := exec_push p s
  have hpop : exec (.pop q) t = .next u := exec_pop q t
  refine ⟨t, u, hpush, hpop, ?_, ?_, ?_⟩
  · calc (t.popped.setStackPair q t.stackTop).regs.sp
        = t.regs.sp + 2 := setStackPair_regs_sp q _ _
      _ = s.regs.sp - 2 + 2 := congrArg (·.sp + 2) (push16_regs (s.getStackPair p) s)
      _ = s.regs.sp := sub_add_cancel _ _
  · rw [← htop]
    exact getStackPair_setStackPair_self q t.stackTop t.popped
  · rintro rfl
    rw [← htop]
    exact Flags.ofByte_loByte t.stackTop

end Sys2Proof.Machine
end

section
/-! PROOFS. Rotates, shifts and bits (43_rotates_bits R230 to R256): the rules' words for the results of `rotate`, and
what each bit is after a mask has cleared or set one of them. -/

namespace Sys2Proof.Machine

/-! The results of `rotate` (R234). -/

theorem rotate_rlc (v : Byte) (c : Bool) : rotate .rlc v c = (v.rotateLeft 1, v.getLsbD 7) := rfl

theorem rotate_rrc (v : Byte) (c : Bool) : rotate .rrc v c = (v.rotateRight 1, v.getLsbD 0) := rfl

theorem rotate_swap (v : Byte) (c : Bool) : rotate .swap v c = (v.rotateLeft 4, false) := rfl

theorem rotate_rl (v : Byte) (c : Bool) : rotate .rl v c = ((v <<< 1) ||| (if c then 0x01 else 0), v.getLsbD 7) := by
  cases c <;> rfl

theorem rotate_rr (v : Byte) (c : Bool) : rotate .rr v c = ((v >>> 1) ||| (if c then 0x80 else 0), v.getLsbD 0) := by
  cases c <;> rfl

theorem rotate_sla (v : Byte) (c : Bool) : rotate .sla v c = (BitVec.ofNat 8 (2 * v.toNat), v.getLsbD 7) := by
  have hr : v <<< 1 = BitVec.ofNat 8 (2 * v.toNat) := by bv_omega
  exact congrArg (·, v.getLsbD 7) hr

theorem rotate_srl (v : Byte) (c : Bool) : rotate .srl v c = (BitVec.ofNat 8 (v.toNat / 2), v.getLsbD 0) := by
  have hr : v >>> 1 = BitVec.ofNat 8 (v.toNat / 2) := by bv_omega
  exact congrArg (·, v.getLsbD 0) hr

/-- The sign bit, put back after a shift right, is the arithmetic shift. -/
theorem ushiftRight_one_or_sign (v : Byte) : (v >>> 1) ||| (v &&& 0x80) = v.sshiftRight 1 := by
  have hsign : (0x80 : Byte) = BitVec.twoPow 8 7 := rfl
  ext k hk
  rw [hsign]
  by_cases h7 : k = 7
  · subst h7
    simp [BitVec.getElem_sshiftRight, BitVec.msb_eq_getLsbD_last]
  · have hlt : 1 + k < 8 := by omega
    simp [BitVec.getElem_sshiftRight, hlt, h7]

theorem rotate_sra (v : Byte) (c : Bool) : rotate .sra v c = (v.sshiftRight 1, v.getLsbD 0) :=
  congrArg (·, v.getLsbD 0) (ushiftRight_one_or_sign v)

/-! What a rotate leaves, given its result and its carry out. -/

/-- What an accumulator rotate leaves: `A` and the flags, with Z 0 (R230 to R233). -/
theorem rotA_eq {op : RotOp} {s : State} {r : Byte} {co : Bool} (h : rotate op s.regs.a s.regs.flags.c = (r, co)) :
    rotA op s = .next { s with
      regs := { s.regs with a := r, flags := { z := false, n := false, h := false, c := co } }, cycles := 4 } := by
  rw [rotA, h]
  rfl

/-- What a `CB` rotate or shift leaves: one write of the operand, then the flags (R235 to R250). -/
theorem rotX_eq {op : RotOp} {x : Operand8} {s : State} {r : Byte} {co : Bool}
    (h : rotate op (s.readX x) s.regs.flags.c = (r, co)) :
    rotX op x s = .next { State.setFlags { z := decide (r = 0), n := false, h := false, c := co } (s.writeX x r) with
      cycles := if x = .mHL then 16 else 8 } := by
  rw [rotX, h, formCycles_eq_ite]
  rfl

/-- Settles O23: each has an opcode of its own, and its result is that of `rotate` on `A`. -/
theorem accumulatorRotates : Obligations.AccumulatorRotates := fun rest s =>
  ⟨decode_op rfl rest, (exec_rlca s).trans (rotA_eq (rotate_rlc _ _)),
    decode_op rfl rest, (exec_rrca s).trans (rotA_eq (rotate_rrc _ _)),
    decode_op rfl rest, (exec_rla s).trans (rotA_eq (rotate_rl _ _)),
    decode_op rfl rest, (exec_rra s).trans (rotA_eq (rotate_rr _ _))⟩

/-- Settles O24: the eight rows of the `CB` page's first quarter, and the eight results of `rotate`. -/
theorem cbRotatesAndShifts : Obligations.CbRotatesAndShifts := fun x rest s =>
  ⟨decode_cb (cbRow_rot .rlc x) rest, (exec_rot .rlc x s).trans (rotX_eq (rotate_rlc _ _)),
    decode_cb (cbRow_rot .rrc x) rest, (exec_rot .rrc x s).trans (rotX_eq (rotate_rrc _ _)),
    decode_cb (cbRow_rot .rl x) rest, (exec_rot .rl x s).trans (rotX_eq (rotate_rl _ _)),
    decode_cb (cbRow_rot .rr x) rest, (exec_rot .rr x s).trans (rotX_eq (rotate_rr _ _)),
    decode_cb (cbRow_rot .sla x) rest, (exec_rot .sla x s).trans (rotX_eq (rotate_sla _ _)),
    decode_cb (cbRow_rot .sra x) rest, (exec_rot .sra x s).trans (rotX_eq (rotate_sra _ _)),
    decode_cb (cbRow_rot .swap x) rest, (exec_rot .swap x s).trans (rotX_eq (rotate_swap _ _)),
    decode_cb (cbRow_rot .srl x) rest, (exec_rot .srl x s).trans (rotX_eq (rotate_srl _ _))⟩

/-! Single bits. -/

theorem bitMask_eq_twoPow (b : Fin 8) : bitMask b = BitVec.twoPow 8 b.val := rfl

/-- `RES`: the mask's complement clears bit `b` and keeps the others (R253). -/
theorem getLsbD_and_not_bitMask (v : Byte) (b : Fin 8) {k : Nat} (hk : k < 8) :
    (v &&& ~~~(bitMask b)).getLsbD k = if k = b.val then false else v.getLsbD k := by
  rw [bitMask_eq_twoPow]
  by_cases h : k = b.val
  · simp [h]
  · simp [h, hk]

/-- `SET`: the mask sets bit `b` and keeps the others (R255). -/
theorem getLsbD_or_bitMask (v : Byte) (b : Fin 8) (k : Nat) :
    (v ||| bitMask b).getLsbD k = if k = b.val then true else v.getLsbD k := by
  rw [bitMask_eq_twoPow]
  by_cases h : k = b.val
  · simp [h]
  · simp [h, Ne.symm h]

/-- Settles O25: `bitX` writes only the flags; `resX` and `setX` write the operand once, under the mask of bit `b`. -/
theorem bitInstructions : Obligations.BitInstructions := by
  intro b x rest s
  simp only [← formCycles_eq_ite]
  exact ⟨decode_cb (cbRow_bit b x) rest, exec_bit b x s,
    decode_cb (cbRow_res b x) rest,
    ⟨s.readX x &&& ~~~(bitMask b), exec_res b x s, fun _ hk => getLsbD_and_not_bitMask (s.readX x) b hk⟩,
    decode_cb (cbRow_set b x) rest,
    ⟨s.readX x ||| bitMask b, exec_set b x s, fun k _ => getLsbD_or_bitMask (s.readX x) b k⟩⟩

end Sys2Proof.Machine
end

section
/-! PROOFS. Control transfer (44_control R270 to R281): what a push and then a jump leave, and what a conditional form
leaves as one state chosen by the condition. -/

namespace Sys2Proof.Machine

/-- An instruction that ends in one of two states ends in the state chosen (R270). -/
theorem ite_finish (holds : Prop) [Decidable holds] (taken notTaken : Nat) (t s : State) :
    (if holds then t.finish taken else s.finish notTaken) =
      .next (if holds then { t with cycles := taken } else { s with cycles := notTaken }) :=
  (apply_ite Host.Outcome.next holds _ _).symm

/-- What a push of `v` and then a jump leave, as one state (R276). -/
theorem setPc_push16_eq (target v : Word) (s : State) : (s.push16 v).setPc target =
    { (s.write (s.regs.sp - 1) (hiByte v)).write (s.regs.sp - 2) (loByte v) with
      regs := { s.regs with sp := s.regs.sp - 2, pc := target } } := by
  rw [push16_eq, State.setPc]

/-- Settles O26: the jumps only write `PC`; the target of `JR` is the sum with the sign-extended offset. -/
theorem jumps : Obligations.Jumps := by
  intro cc a e rest s holds target
  have hcond : holds = s.cond cc := rfl
  have htarget : target = s.regs.pc + sext16 e := (add_sext16 s.regs.pc e).symm
  rw [hcond, htarget]
  exact ⟨decode_word_bytes rfl a rest, exec_jp_a16 a s,
    decode_word_bytes (opcodeRow_jpCc cc) a rest, (exec_jpCc cc a s).trans (ite_finish ..),
    decode_op rfl rest, exec_jp_HL s,
    decode_byte rfl e rest, exec_jr_e8 e s,
    decode_byte (opcodeRow_jrCc cc) e rest,
    (exec_jrCc cc e s).trans (ite_finish ..)⟩

/-- Settles O27: a call is a push of `PC` and then a jump. -/
theorem calls : Obligations.Calls := by
  intro cc a n rest s holds called
  have hcond : holds = s.cond cc := rfl
  have hcalled (target : Word) (k : Nat) : called target k = { (s.push16 s.regs.pc).setPc target with cycles := k } := by
    rw [setPc_push16_eq]
    rfl
  rw [hcond, hcalled, hcalled]
  exact ⟨decode_word_bytes rfl a rest, exec_call_a16 a s,
    decode_word_bytes (opcodeRow_callCc cc) a rest,
    (exec_callCc cc a s).trans (ite_finish ..),
    decode_op (opcodeRow_rst n) rest, exec_rst n s⟩

/-- Settles O28: `PC` takes the word on top of the stack, and `SP` leaves it. -/
theorem returns : Obligations.Returns := by
  intro cc rest s holds returned
  have hcond : holds = s.cond cc := rfl
  rw [hcond]
  exact ⟨decode_op rfl rest, exec_ret s,
    decode_op (opcodeRow_retCc cc) rest,
    (exec_retCc cc s).trans (ite_finish ..)⟩

/-- Settles O29: `returnFromInterrupt` is the return of `RET` and one write of `IME`. -/
theorem returnFromInterrupt : Obligations.ReturnFromInterrupt := fun rest s =>
  ⟨decode_op rfl rest, exec_reti s⟩

end Sys2Proof.Machine
end

section
/-! PROOFS. The system instructions (45_system R290 to R295): every `CB` opcode byte by its fields `x`, `y`, `z`, which is
how the lone `CB` byte and the decoder's `CB` page come to the same operation; and `HALT` by its one test. -/

namespace Sys2Proof

/-! The `CB` page by fields (30_encoding R101, R102, R121). -/

theorem exists_eq_xyz (op : Byte) : ∃ (x : Fin 4) (y z : Fin 8), op = xyz x y z := by
  refine ⟨⟨op.toNat / 64, by omega⟩, ⟨op.toNat / 8 % 8, by omega⟩, ⟨op.toNat % 8, by omega⟩, ?_⟩
  unfold xyz
  bv_omega

theorem code_operandOfCode (z : Fin 8) : (Machine.operandOfCode z).code = z := by fin_cases z <;> rfl

theorem code_rotOpOfCode (y : Fin 8) : (Machine.rotOpOfCode y).code = y := by fin_cases y <;> rfl

/-- What holds of the bytes of the `CB` page's four quarters, at every field `y` and operand, holds of every byte. -/
theorem cbByte_cases {motive : Byte → Prop} (rot : ∀ (op : RotOp) (x : Operand8), motive (xyz 0 op.code x.code))
    (bit : ∀ (b : Fin 8) (x : Operand8), motive (xyz 1 b.val x.code))
    (res : ∀ (b : Fin 8) (x : Operand8), motive (xyz 2 b.val x.code))
    (set : ∀ (b : Fin 8) (x : Operand8), motive (xyz 3 b.val x.code)) (op2 : Byte) : motive op2 := by
  obtain ⟨q, y, z, rfl⟩ := exists_eq_xyz op2
  rw [← code_operandOfCode z]
  match q with
  | 0 =>
    rw [← code_rotOpOfCode y]
    exact rot _ _
  | 1 => exact bit y _
  | 2 => exact res y _
  | 3 => exact set y _

namespace Machine

theorem cbOperation_rot (op : RotOp) (x : Operand8) (s : State) : cbOperation (xyz 0 op.code x.code) s = rotX op x s := by
  cases op <;> rcases x with (_ | _ | _ | _ | _ | _ | _) | _ <;> rfl

theorem cbOperation_bit (b : Fin 8) (x : Operand8) (s : State) : cbOperation (xyz 1 b.val x.code) s = bitX b x s := by
  fin_cases b <;> rcases x with (_ | _ | _ | _ | _ | _ | _) | _ <;> rfl

theorem cbOperation_res (b : Fin 8) (x : Operand8) (s : State) : cbOperation (xyz 2 b.val x.code) s = resX b x s := by
  fin_cases b <;> rcases x with (_ | _ | _ | _ | _ | _ | _) | _ <;> rfl

theorem cbOperation_set (b : Fin 8) (x : Operand8) (s : State) : cbOperation (xyz 3 b.val x.code) s = setX b x s := by
  fin_cases b <;> rcases x with (_ | _ | _ | _ | _ | _ | _) | _ <;> rfl

/-- The `CB` row of a byte means the operation the byte selects. -/
theorem exists_cbRow_exec (op2 : Byte) (s : State) : ∃ i, cbRow op2 = some i ∧ exec i s = cbOperation op2 s := by
  induction op2 using cbByte_cases with
  | rot op x => exact ⟨.rot op x, cbRow_rot op x, by rw [exec_rot, cbOperation_rot]⟩
  | bit b x => exact ⟨.bit b x, cbRow_bit b x, by rw [exec_bit, cbOperation_bit]⟩
  | res b x => exact ⟨.res b x, cbRow_res b x, by rw [exec_res, cbOperation_res]⟩
  | set b x => exact ⟨.set b x, cbRow_set b x, by rw [exec_set, cbOperation_set]⟩

/-- A `CB` operation completes; register forms take 8 cycles, `(HL)` forms 12 (`BIT`) or 16. -/
theorem cbOperation_completes (op2 : Byte) (s : State) :
    ∃ t, cbOperation op2 s = .next t ∧ t.cycles ∈ [8, 12, 16] := by
  have h12 (x : Operand8) : formCycles 8 12 x ∈ [8, 12, 16] := by cases x <;> simp [formCycles]
  have h16 (x : Operand8) : formCycles 8 16 x ∈ [8, 12, 16] := by cases x <;> simp [formCycles]
  induction op2 using cbByte_cases with
  | rot op x => exact ⟨_, cbOperation_rot op x s, h16 x⟩
  | bit b x => exact ⟨_, cbOperation_bit b x s, h12 x⟩
  | res b x => exact ⟨_, cbOperation_res b x s, h16 x⟩
  | set b x => exact ⟨_, cbOperation_set b x s, h16 x⟩

/-- The lone `CB` byte runs the operation of the byte at `PC`, with `PC` past it (R295). -/
theorem exec_prefix_CB_eq (s : State) :
    exec .prefix_CB s = cbOperation (s.read s.regs.pc) (s.setPc (s.regs.pc + 1)) := exec_prefix_CB s

/-- Settles O32: the byte's row and the byte's operation agree, whatever the byte at `PC` is. -/
theorem cbPrefix : Obligations.CbPrefix := by
  intro s
  obtain ⟨i, hrow, hexec⟩ := exists_cbRow_exec (s.read s.regs.pc) (s.setPc (s.regs.pc + 1))
  obtain ⟨t, ht, hcycles⟩ := cbOperation_completes (s.read s.regs.pc) (s.setPc (s.regs.pc + 1))
  exact ⟨i, t, decode_cb hrow [], (exec_prefix_CB_eq s).trans hexec.symm, (exec_prefix_CB_eq s).trans ht, hcycles⟩

/-- `HALT` sets one of two flip-flops (R291). -/
theorem haltAct_eq (s : State) : haltAct s =
    if s.ctl.ime = false ∧ s.pending ≠ 0 then .next { s with ctl := { s.ctl with haltBug := true }, cycles := 4 }
    else .next { s with ctl := { s.ctl with halted := true }, cycles := 4 } := by
  simp only [haltAct, State.finish, Bool.and_eq_true, Bool.not_eq_true', decide_eq_true_eq]

/-- Settles O30: each instruction has an opcode of its own, and sets at most one flip-flop. -/
theorem controlFlipFlops : Obligations.ControlFlipFlops := fun pad rest s =>
  ⟨decode_op rfl rest, exec_nop s,
    decode_op rfl rest,
    fun h => (exec_halt s).trans ((haltAct_eq s).trans (if_pos h)),
    fun h => (exec_halt s).trans ((haltAct_eq s).trans (if_neg h)),
    decode_byte rfl pad rest, exec_stop pad s,
    decode_op rfl rest, exec_di s,
    decode_op rfl rest, exec_ei s⟩

end Machine

end Sys2Proof
end

section
/-! PROOFS. The interrupt controller and the numbered steps of `Step()` (60_exceptions R313 to R323). -/

namespace Sys2Proof.Machine

/-! ### The controller's bits -/

theorem pending_getLsbD (s : State) {k : Nat} (hk : k < 5) :
    s.pending.getLsbD k = (s.ie.getLsbD k && s.iflag.getLsbD k) := by
  simp [State.pending, hk]

/-- Bit `k` of the mask of interrupt `id`. -/
theorem interruptMask_getLsbD (id : Fin 5) {k : Nat} (hk : k < 5) : (1#5 <<< id.val).getLsbD k = decide (k = id.val) := by
  have h : 1#5 <<< id.val = BitVec.twoPow 5 id.val := rfl
  simp [h, hk]

theorem requestInterrupt_getLsbD (s : State) (id : Fin 5) {k : Nat} (hk : k < 5) :
    (s.requestInterrupt id).iflag.getLsbD k = (decide (k = id.val) || s.iflag.getLsbD k) := by
  rw [requestInterrupt_iflag, BitVec.getLsbD_or, interruptMask_getLsbD id hk, Bool.or_comm]

theorem clearInterrupt_getLsbD (s : State) (b : Fin 5) {k : Nat} (hk : k < 5) :
    (s.clearInterrupt b).iflag.getLsbD k = (!decide (k = b.val) && s.iflag.getLsbD k) := by
  rw [clearInterrupt_iflag, BitVec.getLsbD_and, BitVec.getLsbD_not, interruptMask_getLsbD b hk, Bool.and_comm]
  simp [hk]

/-- The bit with priority is set, and none below it is (60_exceptions R315). -/
theorem highestPendingBit_spec : ∀ bits : BitVec 5, bits ≠ 0 → bits.getLsbD (highestPendingBit bits).val = true ∧
    ∀ k : Nat, k < (highestPendingBit bits).val → bits.getLsbD k = false := by
  decide

/-- Settles O43: each operation on `IF` is a mask of one bit, read off bit by bit. -/
theorem interruptController : Obligations.InterruptController :=
  ⟨fun s _ hk => pending_getLsbD s hk, highestPendingBit_spec,
    fun s id => ⟨_, rfl, fun _ hk => requestInterrupt_getLsbD s id hk⟩,
    fun s b => ⟨_, rfl, fun _ hk => clearInterrupt_getLsbD s b hk⟩,
    rfl, rfl, rfl, rfl, rfl⟩

/-! ### The branches of `Step()` -/

theorem promoteEi_eq (s : State) :
    s.promoteEi = { s with ctl := { s.ctl with ime := s.ctl.ime || s.ctl.eiPending, eiPending := false } } := by
  rw [← promoteEi_ctl]
  unfold State.promoteEi
  split <;> rfl

theorem cpuAct_of_dispatch {s : State} (hp : s.pending ≠ 0) (hi : s.ctl.ime = true) : s.cpuAct = .next s.dispatchInterrupt :=
  if_pos ⟨hp, hi⟩

theorem cpuAct_of_wake {s : State} (hp : s.pending ≠ 0) (hi : s.ctl.ime = false) (hh : s.ctl.halted = true) :
    s.cpuAct = .next { s with ctl := { s.ctl with halted := false }, cycles := s.cfg.haltWakeCycles } := by
  have hd : ¬(s.pending ≠ 0 ∧ s.ctl.ime = true) := by simp [hi]
  rw [State.cpuAct, if_neg hd, if_pos ⟨hp, hh⟩, finish_eq]

theorem cpuAct_of_idle {s : State} (hp : s.pending = 0) (hh : s.ctl.halted = true) :
    s.cpuAct = .next { s with cycles := 4 } := by
  rw [State.cpuAct, if_neg fun h => h.1 hp, if_neg fun h => h.1 hp, if_pos hh, finish_eq]

/-- Taking an interrupt: two bus writes of `PC`, after `IME` and the `IF` bit are cleared (60_exceptions R320). -/
theorem dispatchInterrupt_eq (s : State) :
    s.dispatchInterrupt =
      let cleared : State := State.clearInterrupt (highestPendingBit s.pending) (s.setIme false)
      { (cleared.write (s.regs.sp - 1) (hiByte s.regs.pc)).write (s.regs.sp - 2) (loByte s.regs.pc) with
        regs := { s.regs with sp := s.regs.sp - 2, pc := interruptVector (highestPendingBit s.pending) }
        ctl := { s.ctl with ime := false, halted := false }
        cycles := 20 } := by
  unfold State.dispatchInterrupt
  dsimp only
  rw [push16_eq]
  simp only [write_ctl]
  rfl

/-- Settles O35: after the promotion the conditions select one branch of `Step()` each. -/
theorem stepAlgorithm : Obligations.StepAlgorithm := by
  intro s ime p ctl
  let u : State := { s with ctl := ctl }
  have hstep : s.cpuStep = u.cpuAct := by rw [State.cpuStep, promoteEi_eq]
  rw [hstep]
  refine ⟨fun ⟨hp, hi⟩ => ?_, fun ⟨hp, hi, hh⟩ => cpuAct_of_wake hp hi hh, fun ⟨hp, hh⟩ => cpuAct_of_idle hp hh,
    fun ⟨hi, hh⟩ => cpuAct_eq_runInstruction hh hi⟩
  obtain ⟨hset, hlow⟩ := highestPendingBit_spec p hp
  refine ⟨highestPendingBit p, hset, hlow, ?_⟩
  exact (cpuAct_of_dispatch (s := u) hp hi).trans (congrArg _ (dispatchInterrupt_eq u))

/-! ### The fetch with the halt bug -/

/-- With the halt bug the fetch reads the opcode byte again as the first byte after it (30_encoding R115). -/
theorem instructionBytes_of_haltBug {s : State} (h : s.ctl.haltBug = true) :
    s.instructionBytes = [s.read s.regs.pc, s.read s.regs.pc, s.read (s.regs.pc + 1)] := by
  rw [State.instructionBytes, State.afterOpcodeFetch, if_pos h]
  rfl

/-- Settles O34: as O33, but the opcode fetch leaves `PC` and clears the flip-flop. -/
theorem haltBugRepeatsByte : Obligations.HaltBugRepeatsByte := by
  intro s i rest u pc hh hb hi hd
  have hfetch := fetchInstr_of_decode ((congrArg decode (instructionBytes_of_haltBug hb)).trans hd)
  rw [State.afterOpcodeFetch, if_pos hb] at hfetch
  exact step_of_cpuStep ((cpuAct_eq_runInstruction hh hi).trans (runInstruction_of_fetch hfetch))

end Sys2Proof.Machine
end

section
/-! PROOFS. The machine never stops but for an illegal opcode taken out of its set (60_exceptions R310, 45_system R297):
every byte decodes, and every instruction that is assigned completes. -/

namespace Sys2Proof.Machine

theorem finish_completes (n : Nat) (s : State) : ∃ t, s.finish n = .next t := ⟨_, rfl⟩

theorem ite_completes (b : Bool) {p q : Result} (hp : ∃ t, p = .next t) (hq : ∃ t, q = .next t) :
    ∃ t, (if b then p else q) = .next t := by
  cases b
  · exact hq
  · exact hp

/-- An instruction completes, unless it is an illegal opcode outside the set of no-ops. -/
theorem exec_completes_or_fatal (i : Instr) (s : State) :
    (∃ t, exec i s = .next t) ∨ ∃ op, (op, i) ∈ Instr.illegalRows ∧ op ∉ s.cfg.illegalOpcodes ∧
      exec i s = .fault (.fatalUnknownOpcode op s.regs.pc) := by
  cases i using Instr.byFamily
  case illegal op hop =>
    rw [exec_illegal hop, illegalOpcode]
    split
    · exact .inl (finish_completes 4 s)
    · next hout => exact .inr ⟨op, hop, hout, rfl⟩
  all_goals left
  case halt => exact ite_completes _ (finish_completes 4 _) (finish_completes 4 _)
  case prefix_CB =>
    obtain ⟨t, ht, -⟩ := cbOperation_completes (s.read s.regs.pc) (s.setPc (s.regs.pc + 1))
    exact ⟨t, (exec_prefix_CB_eq s).trans ht⟩
  case jpCc cc a => rw [exec_jpCc]; exact ite_completes _ (finish_completes 16 _) (finish_completes 12 _)
  case jrCc cc e => rw [exec_jrCc]; exact ite_completes _ (finish_completes 12 _) (finish_completes 8 _)
  case callCc cc a => rw [exec_callCc]; exact ite_completes _ (finish_completes 24 _) (finish_completes 12 _)
  case retCc cc => rw [exec_retCc]; exact ite_completes _ (finish_completes 20 _) (finish_completes 8 _)
  case ldRR dst src => exact ⟨_, exec_ldRR dst src s⟩
  case ldRN8 dst n => exact ⟨_, exec_ldRN8 dst n s⟩
  case ldRM dst => exact ⟨_, exec_ldRM dst s⟩
  case ldMR src => exact ⟨_, exec_ldMR src s⟩
  case alu op x => exact ⟨_, exec_alu op x s⟩
  case aluN8 op n => exact ⟨_, exec_aluN8 op n s⟩
  case incX x => exact ⟨_, exec_incX x s⟩
  case decX x => exact ⟨_, exec_decX x s⟩
  case ldRrN16 p n => exact ⟨_, exec_ldRrN16 p n s⟩
  case push p => exact ⟨_, exec_push p s⟩
  case pop p => exact ⟨_, exec_pop p s⟩
  case incRr p => exact ⟨_, exec_incRr p s⟩
  case decRr p => exact ⟨_, exec_decRr p s⟩
  case addHlRr p => exact ⟨_, exec_addHlRr p s⟩
  case rot op x => exact ⟨_, exec_rot op x s⟩
  case bit b x => exact ⟨_, exec_bit b x s⟩
  case res b x => exact ⟨_, exec_res b x s⟩
  case set b x => exact ⟨_, exec_set b x s⟩
  case rst n => exact ⟨_, exec_rst n s⟩
  all_goals exact finish_completes _ _

/-- Any bytes decode, so a fetch gives an instruction (30_encoding R114). -/
theorem exists_fetchInstr (s : State) : ∃ i t, s.fetchInstr = .ok (i, t) := by
  obtain ⟨r, hr, -⟩ := opcodeRow_encodesTo (s.read s.regs.pc)
  obtain ⟨i, rest, hd, -⟩ := decode_three_of_opcodeRow hr (s.afterOpcodeFetch.read s.afterOpcodeFetch.regs.pc)
    (s.afterOpcodeFetch.read (s.afterOpcodeFetch.regs.pc + 1))
  exact ⟨i, _, fetchInstr_of_decode hd⟩

theorem kept_cfg (c : Config) : Kept (fun s => s.cfg = c) where
  regs _ _ h := h
  ctl _ _ _ h := h
  cycles _ _ h := h
  write s a v h := (write_cfg a v s).trans h

/-- `Step()` answers a state or the fatal unknown opcode. -/
theorem cpuStep_completes_or_fatal (s : State) :
    (∃ t, s.cpuStep = .next t) ∨ ∃ (op : Byte) (i : Instr) (pc : Word), (op, i) ∈ Instr.illegalRows ∧
      op ∉ s.cfg.illegalOpcodes ∧ s.cpuStep = .fault (.fatalUnknownOpcode op pc) := by
  unfold State.cpuStep State.cpuAct
  split
  · exact .inl ⟨_, rfl⟩
  split
  · exact .inl (finish_completes _ _)
  split
  · exact .inl (finish_completes _ _)
  obtain ⟨i, t, hf⟩ := exists_fetchInstr s.promoteEi
  have hcfg : t.cfg = s.cfg := (kept_cfg s.cfg).fetchInstr hf (promoteEi_cfg s)
  rw [runInstruction_of_fetch hf]
  rcases exec_completes_or_fatal i t with h | ⟨op, hop, hout, hfault⟩
  · exact .inl h
  · exact .inr ⟨op, i, _, hop, hcfg ▸ hout, hfault⟩

theorem hostActions_cfg (s : State) : s.hostActions.cfg = s.cfg :=
  hostActions_kept (P := fun u => u.cfg = s.cfg) (fun _ _ h => h) (fun _ _ h => (requestWhen_cfg _ _ _).trans h) rfl

theorem step_completes_or_fatal (s : State) :
    (∃ t, step s = .next t) ∨ ∃ (op : Byte) (i : Instr) (pc : Word), (op, i) ∈ Instr.illegalRows ∧
      op ∉ s.cfg.illegalOpcodes ∧ step s = .fault (.fatalUnknownOpcode op pc) := by
  rcases cpuStep_completes_or_fatal s.hostActions with ⟨t, ht⟩ | ⟨op, i, pc, hop, hout, hfault⟩
  · exact .inl ⟨_, step_of_cpuStep ht⟩
  · exact .inr ⟨op, i, pc, hop, hostActions_cfg s ▸ hout, step_of_cpuStep hfault⟩

/-- Settles O57: where every illegal opcode is a no-op the fatal case is excluded. -/
theorem stepNeverStops : Obligations.StepNeverStops := by
  refine fun s => ⟨fun hall => ?_, step_completes_or_fatal s⟩
  rcases step_completes_or_fatal s with h | ⟨op, i, _, hop, hout, -⟩
  · exact h
  · exact absurd (hall (op, i) hop) hout

end Sys2Proof.Machine
end

section
/-! PROOFS. The timer: one tick and the register writes as functions of the falling edge, and its period
(60_exceptions R341 to R349). -/

namespace Sys2Proof.Machine

/-! ### One tick, and the writes that can be a falling edge -/

theorem selBit_eq_ite (sel : BitVec 2) : selBit sel = if sel = 0 then 9 else if sel = 1 then 3 else if sel = 2 then 5 else 7 := by
  revert sel
  decide

theorem timerSignal_eq (tac : BitVec 3) (ctr : Word) : timerSignal tac ctr = (tac.getLsbD 2 &&
    ctr.getLsbD (if tac.extractLsb' 0 2 = 0 then 9 else if tac.extractLsb' 0 2 = 1 then 3 else
      if tac.extractLsb' 0 2 = 2 then 5 else 7)) := by
  rw [timerSignal, selBit_eq_ite]

/-- Whether a pending overflow is due this tick (R343). -/
def TimerState.due (t : TimerState) : Bool := t.overflowPending && decide (t.overflowDelay ≤ 1)

/-- The first half of a tick, in one record. -/
theorem reloadStep_eq (t : TimerState) : t.reloadStep =
    ({ t with
      tima := if t.due then t.tma else t.tima
      overflowPending := t.overflowPending && !t.due
      overflowDelay := if t.overflowPending then t.overflowDelay - 1 else t.overflowDelay }, t.due) := by
  obtain ⟨ctr, tima, tma, tac, pending, delay⟩ := t
  cases pending with
  | false => rfl
  | true =>
    by_cases hd : delay ≤ 1
    · have h0 : delay - 1 = 0 := by omega
      simp [TimerState.reloadStep, TimerState.due, hd, h0]
    · have h0 : ¬delay - 1 = 0 := by omega
      simp [TimerState.reloadStep, TimerState.due, hd, h0]

/-- `IncTima()` on a falling edge that has been decided. -/
theorem fallingEdge_eq (delay : Nat) (old : Bool) (t : TimerState) :
    TimerState.fallingEdge delay old t =
      if (old && !t.signal) = false then t
      else if t.tima = 0xFF then { t with tima := 0, overflowPending := true, overflowDelay := delay }
      else { t with tima := t.tima + 1 } := by
  unfold TimerState.fallingEdge TimerState.incTima
  cases old && !t.signal <;> rfl

/-- Settles O44: a tick is the reload and then the count, and each write is its register's falling-edge test. -/
theorem timerEvents : Obligations.TimerEvents := by
  intro s v t bit signal counted due reloaded
  have hsignal : signal = timerSignal := funext fun tac => funext fun ctr => (timerSignal_eq tac ctr).symm
  have hcounted (old : Bool) (u : TimerState) :
      TimerState.fallingEdge s.cfg.timaReloadDelay old u = counted (old && !u.signal) u := fallingEdge_eq _ _ _
  rw [hsignal]
  let withTimer : TimerState → State := fun u => { s with timer := u }
  refine ⟨?_, congrArg withTimer ?_, congrArg withTimer (hcounted _ _), congrArg withTimer ?_⟩
  · rw [timerTick_eq, reloadStep_eq, TimerState.countStep, hcounted]
    rfl
  · have hzero : TimerState.signal { t with systemCounter := 0 } = false := by simp [TimerState.signal, timerSignal]
    refine (hcounted t.signal { t with systemCounter := 0 }).trans ?_
    rw [hzero, Bool.not_false, Bool.and_true]
    rfl
  · have hcancel : (if s.cfg.timaWriteCancelsReload then false else t.overflowPending) =
        (t.overflowPending && !s.cfg.timaWriteCancelsReload) := by
      cases s.cfg.timaWriteCancelsReload <;> simp
    rw [← hcancel]
    rfl

/-! ### The period -/

/-- A counter bit that `TAC` can select falls in a tick exactly when the counter comes to a multiple of twice its weight. -/
theorem falls_iff_dvd {b : Nat} (hb : b ∈ [3, 5, 7, 9]) (w : Word) :
    (w.getLsbD b && !(w + 1).getLsbD b) = decide (2 ^ (b + 1) ∣ w.toNat + 1) := by
  have hw : w.toNat < 65536 := w.isLt
  have hsucc : (w + 1).toNat = (w.toNat + 1) % 65536 := BitVec.toNat_add w 1
  rw [BitVec.getLsbD, BitVec.getLsbD, hsucc, Nat.testBit_eq_decide_div_mod_eq, Nat.testBit_eq_decide_div_mod_eq,
    Bool.eq_iff_iff, Bool.and_eq_true, Bool.not_eq_true', decide_eq_true_iff, decide_eq_false_iff_not, decide_eq_true_iff]
  simp only [List.mem_cons, List.not_mem_nil, or_false] at hb
  rcases hb with rfl | rfl | rfl | rfl <;> norm_num <;> omega

/-- How many ticks the counter bit that `TAC[1:0]` selects takes from one falling edge to the next (90_conflicts C1). -/
def timaPeriod (sel : BitVec 2) : Nat := 2 ^ (selBit sel + 1)

theorem timaPeriod_eq_ite (sel : BitVec 2) :
    timaPeriod sel = if sel = 0 then 1024 else if sel = 1 then 16 else if sel = 2 then 64 else 256 := by
  revert sel
  decide

theorem timaPeriod_mem (sel : BitVec 2) : timaPeriod sel ∈ [16, 64, 256, 1024] := by
  revert sel
  decide

theorem signal_falls {tac : BitVec 3} (hen : tac.getLsbD 2 = true) (w : Word) :
    (timerSignal tac w && !timerSignal tac (w + 1)) = decide (timaPeriod (tac.extractLsb' 0 2) ∣ w.toNat + 1) := by
  have hb : ∀ sel : BitVec 2, selBit sel ∈ [3, 5, 7, 9] := by decide
  rw [timerSignal, timerSignal, hen, Bool.true_and, Bool.true_and, falls_iff_dvd (hb _)]
  rfl

/-- Whole periods passed, counted a tick at a time: one more whenever the counter comes to a multiple of the period. -/
theorem periods_succ {p : Nat} (hp : p ∈ [16, 64, 256, 1024]) (c n : Nat) :
    (c % p + (n + 1)) / p = (if p ∣ c + 1 then 1 else 0) + ((c + 1) % 65536 % p + n) / p := by
  simp only [List.mem_cons, List.not_mem_nil, or_false] at hp
  rcases hp with rfl | rfl | rfl | rfl <;> split_ifs <;> omega

theorem fallingEdge_systemCounter (delay : Nat) (old : Bool) (t : TimerState) :
    (TimerState.fallingEdge delay old t).systemCounter = t.systemCounter := by
  rw [fallingEdge_eq]
  split_ifs <;> rfl

/-- The counter advances in every tick (R343). -/
theorem timerTick_systemCounter (s : State) : s.timerTick.timer.systemCounter = s.timer.systemCounter + 1 := by
  rw [timerTick_eq, reloadStep_eq]
  exact fallingEdge_systemCounter _ _ _

theorem iterate_timerTick_systemCounter (n : Nat) (s : State) :
    (State.timerTick^[n] s).timer.systemCounter = s.timer.systemCounter + BitVec.ofNat 16 n := by
  induction n generalizing s with
  | zero => exact (BitVec.add_zero _).symm
  | succ n ih =>
    rw [Function.iterate_succ_apply, ih, timerTick_systemCounter, BitVec.add_assoc, Nat.add_comm n 1, BitVec.ofNat_add]
    rfl

/-- With no overflow pending a tick is the count alone. -/
theorem timerTick_of_not_pending {s : State} (h : s.timer.overflowPending = false) :
    s.timerTick = { s with timer := s.timer.countStep s.cfg.timaReloadDelay } := by
  have hr : s.timer.reloadStep = (s.timer, false) := by rw [TimerState.reloadStep, h]; rfl
  rw [timerTick_eq, hr]
  rfl

/-- The periods of the selected bit that end in the next `n` ticks. -/
def TimerState.periodsIn (t : TimerState) (n : Nat) : Nat :=
  (t.systemCounter.toNat % timaPeriod (t.tac.extractLsb' 0 2) + n) / timaPeriod (t.tac.extractLsb' 0 2)

/-- The periods, 0 or 1, that end in the next tick. -/
def TimerState.periodEnds (t : TimerState) : Nat :=
  if timaPeriod (t.tac.extractLsb' 0 2) ∣ t.systemCounter.toNat + 1 then 1 else 0

theorem periodsIn_zero (t : TimerState) : t.periodsIn 0 = 0 :=
  Nat.div_eq_of_lt (Nat.mod_lt _ (Nat.two_pow_pos _))

/-- The timer a tick on, with TIMA at `v`. -/
def TimerState.countedTo (v : Byte) (t : TimerState) : TimerState :=
  { t with systemCounter := t.systemCounter + 1, tima := v }

theorem periodsIn_succ (t : TimerState) (v : Byte) (n : Nat) :
    t.periodsIn (n + 1) = t.periodEnds + (t.countedTo v).periodsIn n := by
  have hsucc : (t.countedTo v).systemCounter.toNat = (t.systemCounter.toNat + 1) % 65536 :=
    BitVec.toNat_add t.systemCounter 1
  rw [TimerState.periodsIn, TimerState.periodsIn, hsucc]
  exact periods_succ (timaPeriod_mem _) _ n

/-- An enabled timer counts TIMA at the end of a period, and does nothing else up to the overflow. -/
theorem countStep_of_enabled (delay : Nat) {t : TimerState} (hen : t.tac.getLsbD 2 = true)
    (hle : t.tima.toNat + t.periodEnds ≤ 0xFF) : ∃ v : Byte, v.toNat = t.tima.toNat + t.periodEnds ∧
      t.countStep delay = t.countedTo v := by
  have hedge : (t.signal && !TimerState.signal { t with systemCounter := t.systemCounter + 1 }) =
      decide (timaPeriod (t.tac.extractLsb' 0 2) ∣ t.systemCounter.toNat + 1) := signal_falls hen _
  rw [TimerState.countStep, fallingEdge_eq, hedge]
  by_cases hd : timaPeriod (t.tac.extractLsb' 0 2) ∣ t.systemCounter.toNat + 1
  · have hone : t.periodEnds = 1 := if_pos hd
    rw [hone] at hle ⊢
    have hne : t.tima ≠ 0xFF := by bv_omega
    exact ⟨t.tima + 1, by bv_omega, by rw [if_neg (by simp [hd]), if_neg hne, TimerState.countedTo]⟩
  · have hzero : t.periodEnds = 0 := if_neg hd
    exact ⟨t.tima, by rw [hzero]; rfl, if_pos (by simp [hd])⟩

/-- TIMA after `n` ticks of an enabled timer, up to the overflow (R349). -/
theorem iterate_timerTick_tima (n : Nat) {s : State} (hen : s.timer.tac.getLsbD 2 = true)
    (hpend : s.timer.overflowPending = false) (hle : s.timer.tima.toNat + s.timer.periodsIn n ≤ 0xFF) :
    (State.timerTick^[n] s).timer.tima.toNat = s.timer.tima.toNat + s.timer.periodsIn n ∧
      (State.timerTick^[n] s).iflag = s.iflag := by
  induction n generalizing s with
  | zero =>
    rw [periodsIn_zero]
    exact ⟨rfl, rfl⟩
  | succ n ih =>
    have hends : s.timer.tima.toNat + s.timer.periodEnds ≤ 0xFF := by
      rw [periodsIn_succ s.timer 0] at hle
      omega
    obtain ⟨v, hv, hcount⟩ := countStep_of_enabled s.cfg.timaReloadDelay hen hends
    rw [periodsIn_succ s.timer v, ← Nat.add_assoc, ← hv] at hle ⊢
    rw [Function.iterate_succ_apply, timerTick_of_not_pending hpend, hcount]
    exact ih (s := { s with timer := s.timer.countedTo v }) hen hpend hle

/-- Settles O45: by induction over the ticks; a falling edge of the selected bit is the end of a period. -/
theorem timerPeriod : Obligations.TimerPeriod := by
  intro s n
  dsimp only
  rw [← timaPeriod_eq_ite]
  refine ⟨?_, fun hen hpend hle => iterate_timerTick_tima n hen hpend hle⟩
  rw [iterate_timerTick_systemCounter, BitVec.ofNat_add, BitVec.ofNat_toNat, BitVec.setWidth_eq]

end Sys2Proof.Machine
end

section
/-! PROOFS. The PPU's mode machine: a mode entry and one tick (60_exceptions R361 to R368). -/

namespace Sys2Proof.Machine

/-! ### A mode entry -/

/-- A mode written to STAT leaves bits 7..2 alone. -/
theorem statWithMode_high (stat : Byte) (m : Mode) :
    (statWithMode stat m).extractLsb' 3 5 = stat.extractLsb' 3 5 ∧ (statWithMode stat m).getLsbD 2 = stat.getLsbD 2 ∧
      (statWithMode stat m).getLsbD 6 = stat.getLsbD 6 := by
  revert stat
  cases m <;> decide

theorem statWithCoincidence_flag (stat : Byte) (eq : Bool) : (statWithCoincidence stat eq).getLsbD 2 = eq := by
  revert stat
  cases eq <;> decide

theorem statWithCoincidence_high (stat : Byte) (eq : Bool) :
    (statWithCoincidence stat eq).extractLsb' 3 5 = stat.extractLsb' 3 5 := by
  revert stat
  cases eq <;> decide

theorem requestWhen_getLsbD (b : Bool) (id : Fin 5) (s : State) {k : Nat} (hk : k < 5) :
    (s.requestWhen b id).iflag.getLsbD k = (s.iflag.getLsbD k || (b && decide (k = id.val))) := by
  cases b with
  | false => simp [requestWhen_eq]
  | true => exact (requestInterrupt_getLsbD s id hk).trans (Bool.or_comm _ _)

/-- The interrupts a mode entry requests: 0 on the entry to VBlank, 1 by the mode's enable bit, 1 by a coincidence that
just became true (60_exceptions R362, R363). -/
theorem enterMode_getLsbD (m : Mode) (d : Nat) (s : State) {k : Nat} (hk : k < 5) :
    (s.enterMode m d).iflag.getLsbD k = (s.iflag.getLsbD k || (decide (m = .vBlank) && decide (k = 0)) ||
      (entryStatInterrupt s.lcd.stat m && decide (k = 1)) ||
      ((decide (s.lcd.ly = s.lcd.lyc) && !s.lcd.stat.getLsbD 2 && s.lcd.stat.getLsbD 6) && decide (k = 1))) := by
  obtain ⟨-, h2, h6⟩ := statWithMode_high s.lcd.stat m
  unfold State.enterMode State.evalCoincidence
  rw [requestWhen_getLsbD _ _ _ hk]
  dsimp only
  rw [requestWhen_lcd, requestWhen_lcd, requestWhen_getLsbD _ _ _ hk, requestWhen_getLsbD _ _ _ hk]
  dsimp only
  rw [h2, h6]
  rfl

/-- Settles O46: a mode entry writes STAT bits 2..0, and the interrupts it requests are read off bit by bit. -/
theorem modeEntry : Obligations.ModeEntry := by
  intro s m d t coincides enabled
  have henabled : enabled = entryStatInterrupt s.lcd.stat m := by cases m <;> rfl
  obtain ⟨f, hf⟩ := enterMode_cases m d s
  have hstat : t.lcd.stat = statWithCoincidence (statWithMode s.lcd.stat m) coincides := congrArg (fun u => u.lcd.stat) hf
  rw [hstat, henabled]
  refine ⟨hf.trans (by rw [show t.iflag = f from congrArg State.iflag hf]),
    (statWithCoincidence_mode _ _).trans (statWithMode_mode _ _), statWithCoincidence_flag _ _,
    (statWithCoincidence_high _ _).trans (statWithMode_high _ _).1, ?_, ?_, ?_⟩
  · rw [enterMode_getLsbD m d s (by decide)]
    simp
  · rw [enterMode_getLsbD m d s (by decide)]
    simp [coincides]
  · refine BitVec.eq_of_getLsbD_eq fun i hi => ?_
    rw [BitVec.getLsbD_extractLsb', BitVec.getLsbD_extractLsb', enterMode_getLsbD m d s (by omega)]
    have h1 : ¬2 + i = 1 := by omega
    simp [h1]

/-! ### One tick -/

theorem ppuTick_of_lcdOff {s : State} (h : s.lcdOn = false) : s.ppuTick = s := by
  rw [ppuTick_eq, h]
  rfl

theorem ppuTick_of_counting {s : State} (h : s.lcdOn = true) (hc : 2 ≤ s.ppu.cyclesRemaining) : s.ppuTick = s.ppuCounted := by
  have hne : ¬s.ppuCounted.ppu.cyclesRemaining = 0 := by show ¬s.ppu.cyclesRemaining - 1 = 0; omega
  rw [ppuTick_eq, if_pos h, if_neg hne]

theorem ppuTick_of_last {s : State} (h : s.lcdOn = true) (hc : s.ppu.cyclesRemaining ≤ 1) :
    s.ppuTick = s.ppuCounted.ppuModeEnd := by
  have h0 : s.ppuCounted.ppu.cyclesRemaining = 0 := by show s.ppu.cyclesRemaining - 1 = 0; omega
  rw [ppuTick_eq, if_pos h, if_pos h0]

/-- Settles O47: the end of each mode, read off the mode machine. -/
theorem ppuTransitions : Obligations.PpuTransitions := by
  intro s u line len
  refine ⟨ppuTick_of_lcdOff, fun ⟨hon, hc⟩ => ppuTick_of_counting hon hc, fun ⟨hon, hc⟩ => ?_⟩
  rw [ppuTick_of_last hon hc, State.ppuModeEnd, show s.ppuCounted.ppu.mode = s.ppu.mode from rfl]
  cases s.ppu.mode with
  | oamScan => rfl
  | drawing => rfl
  | hBlank => rfl
  | vBlank => rfl

end Sys2Proof.Machine
end

section
/-! PROOFS. The schedule of a frame (60_exceptions R364): each mode counts its cycles down, then its end enters the next
mode, so a line takes 456 ticks whatever its sprites, and a frame 154 lines. -/

namespace Sys2Proof.Machine

/-! ### A mode's countdown -/

/-- The state with other cycles left of the PPU's mode. -/
def State.withCyclesLeft (n : Nat) (s : State) : State := { s with ppu := { s.ppu with cyclesRemaining := n } }

theorem iterate_ppuTick_counting {n : Nat} {s : State} (on : s.lcdOn = true) (h : n < s.ppu.cyclesRemaining) :
    State.ppuTick^[n] s = s.withCyclesLeft (s.ppu.cyclesRemaining - n) := by
  induction n with
  | zero => rfl
  | succ n ih =>
    let t : State := s.withCyclesLeft (s.ppu.cyclesRemaining - n)
    have hleft : 2 ≤ t.ppu.cyclesRemaining := by show 2 ≤ s.ppu.cyclesRemaining - n; omega
    rw [Function.iterate_succ_apply', ih (by omega)]
    exact ppuTick_of_counting (s := t) on hleft

/-- A mode with cycles left ends when they have passed. -/
theorem iterate_ppuTick_mode {s : State} (on : s.lcdOn = true) (h : 1 ≤ s.ppu.cyclesRemaining) :
    State.ppuTick^[s.ppu.cyclesRemaining] s = (s.withCyclesLeft 0).ppuModeEnd := by
  obtain ⟨n, hn⟩ : ∃ n, s.ppu.cyclesRemaining = n + 1 := ⟨s.ppu.cyclesRemaining - 1, by omega⟩
  have hone : s.ppu.cyclesRemaining - n = 1 := by omega
  rw [hn, Function.iterate_succ_apply', iterate_ppuTick_counting on (by omega), hone]
  exact ppuTick_of_last (s := s.withCyclesLeft 1) on (Nat.le_refl 1)

/-! ### From mode to mode -/

/-- The end of a mode. -/
def State.endOfMode : Mode → State → State
  | .oamScan => State.endOamScan
  | .drawing => State.endDrawing
  | .hBlank => State.endHBlank
  | .vBlank => State.endVBlankLine

theorem ppuModeEnd_eq (s : State) : s.ppuModeEnd = State.endOfMode s.ppu.mode s := by
  unfold State.ppuModeEnd State.endOfMode
  cases s.ppu.mode <;> rfl

/-- Where the PPU is in a frame, with the LCD on and a sprite penalty that leaves every line an HBlank. -/
structure State.PpuAt (m : Mode) (line left frames : Nat) (s : State) : Prop where
  on : s.lcdOn = true
  mode : s.ppu.mode = m
  line : s.lcd.ly.toNat = line
  left : s.ppu.cyclesRemaining = left
  frames : s.frameCount = frames
  penalty : s.cfg.spriteDrawPenalty ≤ 20

theorem enterMode_ppuAt {m : Mode} {d line frames : Nat} {s : State} (on : s.lcdOn = true) (hl : s.lcd.ly.toNat = line)
    (hf : s.frameCount = frames) (hp : s.cfg.spriteDrawPenalty ≤ 20) : (s.enterMode m d).PpuAt m line d frames := by
  obtain ⟨f, h⟩ := enterMode_cases m d s
  rw [h]
  exact ⟨on, rfl, hl, rfl, hf, hp⟩

theorem enterMode_drawLen (m : Mode) (d : Nat) (s : State) : (s.enterMode m d).ppu.drawLen = s.ppu.drawLen := by
  obtain ⟨f, h⟩ := enterMode_cases m d s
  rw [h]

theorem enterMode_windowLine (m : Mode) (d : Nat) (s : State) : (s.enterMode m d).ppu.windowLine = s.ppu.windowLine := by
  obtain ⟨f, h⟩ := enterMode_cases m d s
  rw [h]

section
variable {m : Mode} {s : State} {k d f : Nat}

/-- After the cycles left of its mode the PPU is at the mode's end. -/
theorem State.PpuAt.modeEnd (h : s.PpuAt m k d f) (hd : 1 ≤ d) :
    State.ppuTick^[d] s = State.endOfMode m (s.withCyclesLeft 0) := by
  have hend := iterate_ppuTick_mode h.on (h.left ▸ hd)
  rw [h.left, ppuModeEnd_eq] at hend
  exact hend.trans (congrFun (congrArg State.endOfMode h.mode) _)

/-- OamScan ends in Drawing, for 172 cycles and at most ten sprite penalties (R365). -/
theorem State.PpuAt.drawing_of_oamScan (h : s.PpuAt .oamScan k 80 f) :
    (State.ppuTick^[80] s).PpuAt .drawing k (State.ppuTick^[80] s).ppu.drawLen f ∧
      172 ≤ (State.ppuTick^[80] s).ppu.drawLen ∧ (State.ppuTick^[80] s).ppu.drawLen ≤ 372 := by
  have hend : State.ppuTick^[80] s = (s.withCyclesLeft 0).endOamScan := h.modeEnd (by decide)
  have hlen : (State.ppuTick^[80] s).ppu.drawLen =
      172 + s.cfg.spriteDrawPenalty * (s.selectSprites s.lcd.ly.toNat).length := by
    rw [hend]
    exact enterMode_drawLen _ _ _
  have hsprites := Nat.mul_le_mul h.penalty (selectSprites_length s.lcd.ly.toNat s)
  refine ⟨?_, by omega, by omega⟩
  rw [hlen, hend]
  exact enterMode_ppuAt h.on h.line h.frames h.penalty

/-- Drawing ends in HBlank, for the rest of the line's 456 cycles (R366). -/
theorem State.PpuAt.hBlank_of_drawing (h : s.PpuAt .drawing k s.ppu.drawLen f) (hd : 1 ≤ s.ppu.drawLen) :
    (State.ppuTick^[s.ppu.drawLen] s).PpuAt .hBlank k (376 - s.ppu.drawLen) f := by
  rw [h.modeEnd hd]
  exact enterMode_ppuAt h.on h.line h.frames h.penalty

/-- HBlank of a line before the last of the picture ends in the next line's OamScan (R367). -/
theorem State.PpuAt.oamScan_of_hBlank (h : s.PpuAt .hBlank k d f) (hd : 1 ≤ d) (hk : k < 143) :
    (State.ppuTick^[d] s).PpuAt .oamScan (k + 1) 80 f := by
  have hline := h.line
  have hne : ¬(s.withCyclesLeft 0).lcd.ly = 143 := by
    show ¬s.lcd.ly = 143
    bv_omega
  rw [h.modeEnd hd, State.endOfMode, State.endHBlank, if_neg hne]
  exact enterMode_ppuAt h.on (by show (s.lcd.ly + 1).toNat = k + 1; bv_omega) h.frames h.penalty

/-- HBlank of the last line of the picture ends the frame: VBlank is entered and its interrupt requested (R367, R377). -/
theorem State.PpuAt.vBlank_of_hBlank (h : s.PpuAt .hBlank 143 d f) (hd : 1 ≤ d) :
    (State.ppuTick^[d] s).PpuAt .vBlank 144 456 (f + 1) ∧ (State.ppuTick^[d] s).iflag.getLsbD 0 = true := by
  have hly : (s.withCyclesLeft 0).lcd.ly = 143 := BitVec.eq_of_toNat_eq h.line
  rw [h.modeEnd hd, State.endOfMode, State.endHBlank, if_pos hly]
  refine ⟨enterMode_ppuAt h.on rfl (congrArg (· + 1) h.frames) h.penalty, ?_⟩
  rw [enterMode_getLsbD _ _ _ (by decide)]
  simp

/-- A line of VBlank is followed by the next (R368). -/
theorem State.PpuAt.vBlank_of_vBlank (h : s.PpuAt .vBlank k 456 f) (hk : k < 153) :
    (State.ppuTick^[456] s).PpuAt .vBlank (k + 1) 456 f := by
  have hline := h.line
  have hne : ¬(s.withCyclesLeft 0).lcd.ly = 153 := by
    show ¬s.lcd.ly = 153
    bv_omega
  rw [h.modeEnd (by decide), State.endOfMode, State.endVBlankLine, if_neg hne, evalCoincidence_eq]
  exact ⟨h.on, h.mode, by show (s.lcd.ly + 1).toNat = k + 1; bv_omega, rfl, h.frames, h.penalty⟩

/-- The last line of VBlank wraps to line 0, with the window's counter at 0 (R368). -/
theorem State.PpuAt.oamScan_of_vBlank (h : s.PpuAt .vBlank 153 456 f) :
    (State.ppuTick^[456] s).PpuAt .oamScan 0 80 f ∧ (State.ppuTick^[456] s).ppu.windowLine = 0 := by
  have hly : (s.withCyclesLeft 0).lcd.ly = 153 := BitVec.eq_of_toNat_eq h.line
  rw [h.modeEnd (by decide), State.endOfMode, State.endVBlankLine, if_pos hly]
  exact ⟨enterMode_ppuAt h.on rfl h.frames h.penalty, enterMode_windowLine _ _ _⟩

/-! ### From line to line -/

theorem iterate_ppuTick_add (m n : Nat) (s : State) :
    State.ppuTick^[m + n] s = State.ppuTick^[n] (State.ppuTick^[m] s) := by
  rw [Nat.add_comm, Function.iterate_add_apply]

/-- A picture line's OamScan, Drawing and HBlank take 456 ticks together, whatever the Drawing length. -/
theorem State.PpuAt.hBlank_of_oamScan (h : s.PpuAt .oamScan k 80 f) :
    ∃ (t : State) (d : Nat), 1 ≤ d ∧ t.PpuAt .hBlank k d f ∧ State.ppuTick^[456] s = State.ppuTick^[d] t := by
  obtain ⟨hdraw, hlow, hhigh⟩ := h.drawing_of_oamScan
  have hsum : 80 + ((State.ppuTick^[80] s).ppu.drawLen + (376 - (State.ppuTick^[80] s).ppu.drawLen)) = 456 := by omega
  refine ⟨_, _, by omega, hdraw.hBlank_of_drawing (by omega), ?_⟩
  rw [← iterate_ppuTick_add, ← iterate_ppuTick_add, hsum]

theorem State.PpuAt.pictureLine (h : s.PpuAt .oamScan 0 80 f) (hk : k ≤ 143) :
    (State.ppuTick^[456 * k] s).PpuAt .oamScan k 80 f := by
  induction k with
  | zero => exact h
  | succ k ih =>
    obtain ⟨t, d, hd, ht, heq⟩ := (ih (by omega)).hBlank_of_oamScan
    rw [Nat.mul_succ, iterate_ppuTick_add, heq]
    exact ht.oamScan_of_hBlank hd (by omega)

theorem State.PpuAt.firstVBlankLine (h : s.PpuAt .oamScan 0 80 f) :
    (State.ppuTick^[456 * 144] s).PpuAt .vBlank 144 456 (f + 1) ∧ (State.ppuTick^[456 * 144] s).iflag.getLsbD 0 = true := by
  obtain ⟨t, d, hd, ht, heq⟩ := (h.pictureLine (Nat.le_refl 143)).hBlank_of_oamScan
  rw [Nat.mul_succ, iterate_ppuTick_add, heq]
  exact ht.vBlank_of_hBlank hd

theorem State.PpuAt.vBlankLine (h : s.PpuAt .oamScan 0 80 f) (hk : 144 ≤ k) (hk' : k ≤ 153) :
    (State.ppuTick^[456 * k] s).PpuAt .vBlank k 456 (f + 1) := by
  induction k, hk using Nat.le_induction with
  | base => exact h.firstVBlankLine.1
  | succ k _ ih =>
    rw [Nat.mul_succ, iterate_ppuTick_add]
    exact (ih (by omega)).vBlank_of_vBlank (by omega)

end

/-! ### The request of the frame's VBlank -/

/-- A tick of the PPU takes no request back: it does not see `IF` bits that are added beside it. -/
theorem ppuTick_keeps_request {k : BitVec 5} {s : State} (h : s.iflag ||| k = s.iflag) :
    s.ppuTick.iflag ||| k = s.ppuTick.iflag := by
  have hs : s.besidePpu s.timer k s.dmaBusy = s := by rw [State.besidePpu, h]
  have ht := ppuTick_besidePpu s.timer k s.dmaBusy s
  rw [hs] at ht
  exact (congrArg State.iflag ht).symm

theorem iterate_ppuTick_keeps_request {k : BitVec 5} (n : Nat) {s : State} (h : s.iflag ||| k = s.iflag) :
    (State.ppuTick^[n] s).iflag ||| k = (State.ppuTick^[n] s).iflag := by
  induction n with
  | zero => exact h
  | succ n ih =>
    rw [Function.iterate_succ_apply']
    exact ppuTick_keeps_request ih

theorem or_vBlank_eq_iff (f : BitVec 5) : f ||| 1#5 = f ↔ f.getLsbD 0 = true := by
  revert f
  decide

/-- Settles O48: by induction over the lines, each 456 ticks from its first mode to the next line's. -/
theorem frameSchedule : Obligations.FrameSchedule := by
  intro s on hm hly hc hp
  have h0 : s.PpuAt .oamScan 0 80 s.frameCount := ⟨on, hm, congrArg BitVec.toNat hly, hc, rfl, hp⟩
  refine ⟨fun k hk => ⟨?_, ?_⟩, fun k hk hk' => ?_, ?_⟩
  · have hline := h0.pictureLine hk
    exact ⟨hline.mode, hline.line, hline.left, hline.frames⟩
  · obtain ⟨hdraw, hlow, -⟩ := (h0.pictureLine hk).drawing_of_oamScan
    rw [← iterate_ppuTick_add] at hdraw hlow
    refine ⟨hdraw.mode, hdraw.line, hdraw.left, ?_⟩
    rw [iterate_ppuTick_add]
    exact (hdraw.hBlank_of_drawing (by omega)).mode
  · have hline := h0.vBlankLine hk hk'
    exact ⟨hline.mode, hline.line, hline.left, hline.frames⟩
  · obtain ⟨hwrap, hwindow⟩ := (h0.vBlankLine (by decide) (Nat.le_refl 153)).oamScan_of_vBlank
    have hframe : 456 * 153 + 456 = 70224 := by norm_num
    have hvBlank : 456 * 144 + 4560 = 70224 := by norm_num
    rw [← iterate_ppuTick_add, hframe] at hwrap hwindow
    have hreq : (State.ppuTick^[70224] s).iflag.getLsbD 0 = true := by
      rw [← hvBlank, iterate_ppuTick_add, ← or_vBlank_eq_iff]
      exact iterate_ppuTick_keeps_request _ ((or_vBlank_eq_iff _).mpr h0.firstVBlankLine.2)
    exact ⟨hwrap.mode, BitVec.eq_of_toNat_eq hwrap.line, hwrap.left, hwindow, hwrap.frames, hreq⟩

end Sys2Proof.Machine
end

section
/-! PROOFS. The renderers: the line written, the background and window pixel, the selected sprites and their priority
(60_exceptions R366, R371 to R378). -/

namespace Sys2Proof.Machine

/-! ### The line -/

theorem renderedLine_getD (s : State) (line : Nat) {x : Nat} (hx : x < 160) :
    (s.renderedLine line).getD x 0 = s.pixelShade line x := by
  simp [State.renderedLine, State.pixelShade, hx]

/-- Settles O49: a line of the frame buffer is replaced by the rendered one, and the others are read as before. -/
theorem renderLineFrame : Obligations.RenderLineFrame := by
  intro s line t windowDrew
  have hfb : t.fb = s.fb.setLine line (s.renderedLine line) := rfl
  refine ⟨rfl, fun x hx => ?_, fun x y hy => ?_⟩
  · rw [hfb, FrameBuffer.getPixel, FrameBuffer.line_setLine, if_pos rfl]
    exact renderedLine_getD s line hx
  · rw [hfb, FrameBuffer.getPixel, FrameBuffer.line_setLine, if_neg hy.symm, FrameBuffer.getPixel]

/-! ### Background and window -/

theorem bitplanes_eq_ofNat (hi lo : Bool) :
    (BitVec.ofBool hi ++ BitVec.ofBool lo : BitVec 2) = BitVec.ofNat 2 (2 * hi.toNat + lo.toNat) := by
  cases hi <;> cases lo <;> rfl

theorem paletteShade_eq_shift (pal : Byte) (id : BitVec 2) : paletteShade pal id = (pal >>> (2 * id.toNat)).setWidth 2 := by
  rw [BitVec.setWidth_ushiftRight_eq_extractLsb]
  rfl

/-- A pixel of the tile map: its tile's two bitplanes and the shade BGP gives them (R372, R373). -/
theorem mapPixel_eq (s : State) (map px py : Nat) :
    let idx : Byte := s.mem.read (map + 32 * (py / 8) + px / 8)
    let row : Nat := tileBase (s.lcd.lcdc.getLsbD 4) idx + 2 * (py % 8)
    let id : BitVec 2 := BitVec.ofNat 2 (2 * ((s.mem.read (row + 1)).getLsbD (7 - px % 8)).toNat +
      ((s.mem.read row).getLsbD (7 - px % 8)).toNat)
    s.mapPixel map px py = ⟨id, (s.lcd.bgp >>> (2 * id.toNat)).setWidth 2⟩ := by
  intro idx row id
  have hid : s.tilePixel (s.lcd.lcdc.getLsbD 4) idx (py % 8) (px % 8) = id := bitplanes_eq_ofNat _ _
  rw [State.mapPixel, ← paletteShade_eq_shift, ← hid]
  rfl

/-- A window that draws is enabled with the background. -/
theorem bgEnabled_of_windowDraws {s : State} {line : Nat} (h : s.windowDraws line = true) : s.bgEnabled = true := by
  simp only [State.windowDraws, Bool.and_eq_true] at h
  exact h.1.1.1

/-- Settles O50: the window's pixel where it covers the column, else the background's, each one pixel of a tile map. -/
theorem backgroundAndWindow : Obligations.BackgroundAndWindow := by
  intro s line x lcdc drawn inWindow px py map idx base lo hi id
  have hpixel : s.bgWindowPixel line x = if drawn then s.mapPixel map px py else ⟨0, 0⟩ := by
    have hcovers : inWindow = (s.windowDraws line && decide (s.lcd.wx.toNat ≤ x + 7)) := rfl
    by_cases hin : inWindow = true
    · have hdrawn : drawn = true := bgEnabled_of_windowDraws (Bool.and_eq_true_iff.mp (hcovers ▸ hin)).1
      simp only [State.bgWindowPixel, ← hcovers, hin, hdrawn, map, px, py, if_true]
      rfl
    · simp only [State.bgWindowPixel, ← hcovers, hin, map, px, py]
      rfl
  rw [hpixel, mapPixel_eq]
  rfl

/-! ### Sprite selection -/

/-- What a sorted list's first `n` entries leave out comes after all of them, and only when there are `n`. -/
theorem take_of_not_mem {l : List Nat} (hl : l.Pairwise (· < ·)) {n i : Nat} (hi : i ∈ l) (hout : i ∉ l.take n) :
    (l.take n).length = n ∧ ∀ j ∈ l.take n, j < i := by
  have hdrop : i ∈ l.drop n := by
    rw [← List.take_append_drop n l, List.mem_append] at hi
    exact hi.resolve_left hout
  refine ⟨List.length_take_of_le ?_, fun j hj => ?_⟩
  · have := List.length_pos_of_mem hdrop
    rw [List.length_drop] at this
    omega
  · rw [← List.take_append_drop n l, List.pairwise_append] at hl
    exact hl.2.2 j hj i hdrop

theorem spriteCovers_iff (s : State) (line i : Nat) : s.spriteCovers line i = true ↔
    ((s.mem.read (0xFE00 + 4 * i)).toNat : Int) - 16 ≤ line ∧
      (line : Int) < ((s.mem.read (0xFE00 + 4 * i)).toNat : Int) - 16 + (if s.lcd.lcdc.getLsbD 2 then 16 else 8) := by
  rw [State.spriteCovers, decide_eq_true_iff, State.spriteHeight, Nat.cast_ite]
  rfl

theorem selectSprites_of_enabled {s : State} (h : s.objEnabled = true) (line : Nat) :
    s.selectSprites line = ((List.range 40).filter (s.spriteCovers line)).take 10 := if_pos h

theorem selectSprites_of_disabled {s : State} (h : s.objEnabled = false) (line : Nat) : s.selectSprites line = [] :=
  if_neg (by simp [h])

theorem selectSprites_sublist (s : State) (line : Nat) :
    (s.selectSprites line).Sublist ((List.range 40).filter (s.spriteCovers line)) := by
  cases h : s.objEnabled with
  | true => exact selectSprites_of_enabled h line ▸ List.take_sublist _ _
  | false => exact selectSprites_of_disabled h line ▸ List.nil_sublist _

theorem coveringSprites_sorted (s : State) (line : Nat) :
    ((List.range 40).filter (s.spriteCovers line)).Pairwise (· < ·) := List.pairwise_lt_range.filter _

theorem selectSprites_sorted (s : State) (line : Nat) : (s.selectSprites line).Pairwise (· < ·) :=
  (coveringSprites_sorted s line).sublist (selectSprites_sublist s line)

theorem covers_of_mem_selectSprites {s : State} {line i : Nat} (h : i ∈ s.selectSprites line) :
    i < 40 ∧ s.spriteCovers line i = true := by
  have hi := List.mem_filter.mp ((selectSprites_sublist s line).subset h)
  exact ⟨List.mem_range.mp hi.1, hi.2⟩

/-- Settles O51: the selection is the first ten of the covering entries of a sorted list. -/
theorem spriteSelection : Obligations.SpriteSelection := by
  intro s line sel height covers
  refine ⟨fun ⟨hbit, hgate⟩ => selectSprites_of_disabled (by rw [State.objEnabled, hbit, hgate]; rfl) line,
    selectSprites_length line s, selectSprites_sorted s line, fun i hi => ?_, fun hon i hi hcov hout => ?_⟩
  · obtain ⟨hlt, hcov⟩ := covers_of_mem_selectSprites hi
    exact ⟨hlt, (spriteCovers_iff s line i).mp hcov⟩
  · have hen : s.objEnabled = true := by rcases hon with h | h <;> simp [State.objEnabled, h]
    have hmem : i ∈ (List.range 40).filter (s.spriteCovers line) :=
      List.mem_filter.mpr ⟨List.mem_range.mpr hi, (spriteCovers_iff s line i).mpr hcov⟩
    have hsel : sel = _ := selectSprites_of_enabled hen line
    rw [hsel] at hout ⊢
    exact take_of_not_mem (coveringSprites_sorted s line) hmem hout

/-! ### Sprite priority -/

/-- The order of sprites at a column: by X, then by OAM index (R376). -/
def State.spriteBefore (s : State) (i j : Nat) : Prop :=
  (s.oamByte i 1).toNat < (s.oamByte j 1).toNat ∨ ((s.oamByte i 1).toNat = (s.oamByte j 1).toNat ∧ i < j)

theorem insertSprite_of_before {s : State} {i j : Nat} (h : s.spriteBefore i j) (l : List Nat) :
    s.insertSprite i (j :: l) = i :: j :: l := if_pos h

theorem insertSprite_of_not_before {s : State} {i j : Nat} (h : ¬s.spriteBefore i j) (l : List Nat) :
    s.insertSprite i (j :: l) = j :: s.insertSprite i l := if_neg h

theorem spriteBefore_trans {s : State} {i j k : Nat} (h : s.spriteBefore i j) (h' : s.spriteBefore j k) :
    s.spriteBefore i k := by
  unfold State.spriteBefore at *
  omega

theorem spriteBefore_of_not {s : State} {i j : Nat} (hne : i ≠ j) (h : ¬s.spriteBefore i j) : s.spriteBefore j i := by
  unfold State.spriteBefore at *
  omega

theorem insertSprite_perm (s : State) (i : Nat) (l : List Nat) : (s.insertSprite i l).Perm (i :: l) := by
  induction l with
  | nil => exact .refl _
  | cons j l ih =>
    by_cases h : s.spriteBefore i j
    · rw [insertSprite_of_before h]
    · rw [insertSprite_of_not_before h]
      exact (ih.cons j).trans (.swap i j l)

theorem insertSprite_sorted {s : State} {i : Nat} {l : List Nat} (hl : l.Pairwise s.spriteBefore) (hi : i ∉ l) :
    (s.insertSprite i l).Pairwise s.spriteBefore := by
  induction l with
  | nil => exact List.pairwise_singleton _ _
  | cons j l ih =>
    obtain ⟨hj, hl'⟩ := List.pairwise_cons.mp hl
    by_cases h : s.spriteBefore i j
    · rw [insertSprite_of_before h]
      exact List.pairwise_cons.mpr ⟨List.forall_mem_cons.mpr ⟨h, fun k hk => spriteBefore_trans h (hj k hk)⟩, hl⟩
    · rw [insertSprite_of_not_before h]
      obtain ⟨hne, hil⟩ := List.ne_and_not_mem_of_not_mem_cons hi
      refine List.pairwise_cons.mpr ⟨fun k hk => ?_, ih hl' hil⟩
      rcases List.mem_cons.mp ((insertSprite_perm s i l).subset hk) with rfl | hk
      · exact spriteBefore_of_not hne h
      · exact hj k hk

/-- Sorting by insertion: a permutation, in order, of entries that differ. -/
theorem insertSprites_spec (s : State) {l : List Nat} (hl : l.Nodup) :
    (l.foldr s.insertSprite []).Perm l ∧ (l.foldr s.insertSprite []).Pairwise s.spriteBefore := by
  induction l with
  | nil => exact ⟨.refl _, .nil⟩
  | cons i l ih =>
    obtain ⟨hi, hl'⟩ := List.nodup_cons.mp hl
    obtain ⟨hperm, hsorted⟩ := ih hl'
    exact ⟨(insertSprite_perm s i _).trans (hperm.cons i), insertSprite_sorted hsorted (hperm.mem_iff.not.mpr hi)⟩

theorem spriteOrder_spec (s : State) (line : Nat) :
    (s.spriteOrder line).Perm (s.selectSprites line) ∧ (s.spriteOrder line).Pairwise s.spriteBefore :=
  insertSprites_spec s ((selectSprites_sorted s line).imp Nat.ne_of_lt)

/-- Sprites of color id 0 leave the column to those behind them. -/
theorem spriteShade_append {s : State} {line x : Nat} {before : List Nat} (h : ∀ j ∈ before, s.spriteId line x j = 0)
    (bg : Pixel) (behind : List Nat) : s.spriteShade line x bg (before ++ behind) = s.spriteShade line x bg behind := by
  induction before with
  | nil => rfl
  | cons j before ih =>
    obtain ⟨hj, hbefore⟩ := List.forall_mem_cons.mp h
    rw [List.cons_append, State.spriteShade, if_pos hj]
    exact ih hbefore

theorem spriteShade_of_all_zero {s : State} {line x : Nat} {order : List Nat} (h : ∀ j ∈ order, s.spriteId line x j = 0)
    (bg : Pixel) : s.spriteShade line x bg order = bg.shade := by
  have := spriteShade_append h bg []
  rwa [List.append_nil] at this

/-- The first sprite with a color id decides the column (R376). -/
theorem spriteShade_cons_of_ne {s : State} {line x i : Nat} (h : s.spriteId line x i ≠ 0) (bg : Pixel) (behind : List Nat) :
    s.spriteShade line x bg (i :: behind) =
      if (s.oamByte i 3).getLsbD 7 = true ∧ bg.id ≠ 0 then bg.shade
      else paletteShade (if (s.oamByte i 3).getLsbD 4 then s.lcd.obp1 else s.lcd.obp0) (s.spriteId line x i) := by
  rw [State.spriteShade, if_neg h]
  simp only [Bool.and_eq_true, decide_eq_true_iff]

/-- The color id of a sprite in its eight columns is its tile's pixel, the row and the column flipped as its attributes say. -/
theorem spriteId_eq (s : State) (line x i : Nat) :
    let tall : Bool := s.lcd.lcdc.getLsbD 2
    let r : Nat := line + 16 - (s.oamByte i 0).toNat
    let row : Nat := if (s.oamByte i 3).getLsbD 6 then (if tall then 15 else 7) - r else r
    let c : Nat := x + 8 - (s.oamByte i 1).toNat
    let bit : Nat := if (s.oamByte i 3).getLsbD 5 then c else 7 - c
    let tile : Byte := if tall then s.oamByte i 2 &&& 0xFE else s.oamByte i 2
    let plane : Nat → Bool := fun k => (s.mem.read (0x8000 + 16 * tile.toNat + 2 * row + k)).getLsbD bit
    s.spriteId line x i =
      if (s.oamByte i 1).toNat ≤ x + 8 ∧ x < (s.oamByte i 1).toNat then BitVec.ofNat 2 (2 * (plane 1).toNat + (plane 0).toNat)
      else 0 := by
  intro tall r row c bit tile plane
  have hr : ((line : Int) - s.spriteTop i).toNat = r := by
    show ((line : Int) - ((s.oamByte i 0).toNat - 16)).toNat = line + 16 - (s.oamByte i 0).toNat
    omega
  have hc : ((x : Int) - s.spriteLeft i).toNat = c := by
    show ((x : Int) - ((s.oamByte i 1).toNat - 8)).toNat = x + 8 - (s.oamByte i 1).toNat
    omega
  have hcols : (s.spriteLeft i ≤ x ∧ (x : Int) < s.spriteLeft i + 8) ↔
      ((s.oamByte i 1).toNat ≤ x + 8 ∧ x < (s.oamByte i 1).toNat) := by
    unfold State.spriteLeft
    omega
  have hheight : s.spriteHeight - 1 = if tall then 15 else 7 := by
    show (if tall then 16 else 8) - 1 = _
    cases tall <;> rfl
  have htall : s.spriteHeight = 16 ↔ tall = true := by
    show (if tall then 16 else 8) = 16 ↔ tall = true
    cases tall <;> simp
  have htile : (if s.spriteHeight = 16 then s.oamByte i 2 &&& 0xFE else s.oamByte i 2) = tile := if_congr htall rfl rfl
  unfold State.spriteId
  simp only [hcols, hr, hc, hheight, htile]
  split
  · next hin =>
    have hbit : 7 - (if (s.oamByte i 3).getLsbD 5 then 7 - c else c) = bit := by
      show _ = if (s.oamByte i 3).getLsbD 5 then c else 7 - c
      split <;> omega
    rw [← bitplanes_eq_ofNat, State.tilePixel]
    simp only [hbit]
    rfl
  · rfl

/-- Settles O52: the order is an insertion sort of the selection, and the renderer takes the first sprite with an id. -/
theorem spritePriority : Obligations.SpritePriority := by
  intro s line x order bg oam xOf attr tall row bit tile plane
  obtain ⟨hperm, hsorted⟩ := spriteOrder_spec s line
  refine ⟨hperm, hsorted, fun i _ => spriteId_eq s line x i, fun hall => spriteShade_of_all_zero hall bg,
    fun before i behind horder hbefore hi => ?_⟩
  rw [← paletteShade_eq_shift, State.pixelShade, show s.spriteOrder line = _ from horder, spriteShade_append hbefore]
  exact spriteShade_cons_of_ne hi bg behind

end Sys2Proof.Machine
end

section
/-! PROOFS. The joypad register and the host's button calls (60_exceptions R380, R381, 00_scope R3). -/

namespace Sys2Proof.Machine

/-- The low nibble of JOYP: the two groups' lines, wired together. -/
def State.joypLow (s : State) : BitVec 4 :=
  groupNibble (!s.joySel.getLsbD 0) s.buttons.right s.buttons.left s.buttons.up s.buttons.down &&&
    groupNibble (!s.joySel.getLsbD 1) s.buttons.a s.buttons.b s.buttons.select s.buttons.start

theorem joypRead_eq_append (s : State) : s.joypRead = (0b11#2 ++ s.joySel) ++ s.joypLow := by
  have h : ∀ (sel : BitVec 2) (low : BitVec 4),
      (0xC0 : Byte) ||| (sel.setWidth 8 <<< 4) ||| low.setWidth 8 = (0b11#2 ++ sel) ++ low := by decide
  exact h s.joySel s.joypLow

theorem groupNibble_getLsbD (selected b0 b1 b2 b3 : Bool) :
    (groupNibble selected b0 b1 b2 b3).getLsbD 0 = !(selected && b0) ∧
    (groupNibble selected b0 b1 b2 b3).getLsbD 1 = !(selected && b1) ∧
    (groupNibble selected b0 b1 b2 b3).getLsbD 2 = !(selected && b2) ∧
    (groupNibble selected b0 b1 b2 b3).getLsbD 3 = !(selected && b3) := by
  revert selected b0 b1 b2 b3
  decide

theorem Buttons.get_set (bs : Buttons) (pressed : Bool) (button other : Button) :
    (bs.set pressed button).get other = if other = button then pressed else bs.get other := by
  cases button <;> cases other <;> rfl

theorem groupSelected_eq_ite (joySel : BitVec 2) (button : Button) : groupSelected joySel button =
    if button ∈ [Button.right, .left, .up, .down] then !joySel.getLsbD 0 else !joySel.getLsbD 1 := by
  cases button <;> rfl

/-- A button call: the button's level, and interrupt 4 on a press edge of a selected group (R381). -/
theorem setButton_eq (ev : ButtonEvent) (s : State) : s.setButton ev = { s with
    buttons := s.buttons.set ev.pressed ev.button
    iflag := if ev.pressed = true ∧ s.buttons.get ev.button = false ∧ groupSelected s.joySel ev.button = true then
      s.iflag ||| 0b10000 else s.iflag } := by
  rw [State.setButton, requestWhen_eq]
  simp only [Bool.and_eq_true, Bool.not_eq_true', and_assoc]
  rfl

/-- The calls at the head of the queue are applied in order (00_scope R3). -/
theorem hostActions_of_inputs {s : State} {calls : List ButtonEvent} {later : List (List ButtonEvent)}
    (h : s.inputs = calls :: later) :
    s.hostActions = calls.foldl (fun t ev => t.setButton ev) { s with inputs := later } := by
  rw [State.hostActions, h]

theorem hostActions_of_no_inputs {s : State} (h : s.inputs = []) : s.hostActions = s := by
  rw [State.hostActions, h]

theorem setButton_withInputs (ev : ButtonEvent) (q : List (List ButtonEvent)) (s : State) :
    State.setButton ev { s with inputs := q } = { s.setButton ev with inputs := q } := by
  rw [setButton_eq, setButton_eq]

/-- Settles O53: the register is two nibbles, a call is one request at most, and the queue's head is a fold of calls. -/
theorem joypad : Obligations.Joypad := by
  intro s v button pressed directions actions n
  have hread : s.read 0xFF00 = (0b11#2 ++ s.joySel) ++ s.joypLow := joypRead_eq_append s
  have hn : n = s.joypLow := (congrArg (BitVec.extractLsb' 0 4) hread).trans BitVec.extractLsb'_append_eq_right
  have hhigh : (s.read 0xFF00).extractLsb' 4 4 = 0b11#2 ++ s.joySel :=
    (congrArg (BitVec.extractLsb' 4 4) hread).trans BitVec.extractLsb'_append_eq_left
  obtain ⟨d0, d1, d2, d3⟩ := groupNibble_getLsbD directions s.buttons.right s.buttons.left s.buttons.up s.buttons.down
  obtain ⟨a0, a1, a2, a3⟩ := groupNibble_getLsbD actions s.buttons.a s.buttons.b s.buttons.select s.buttons.start
  rw [hn]
  refine ⟨hhigh, ?_, ?_, ?_, ?_, rfl, ?_, (Buttons.get_set _ _ _ _).trans (if_pos rfl),
    fun other h => (Buttons.get_set _ _ _ _).trans (if_neg h),
    hostActions_of_no_inputs, fun later h => hostActions_of_inputs h, fun call calls later h => ?_⟩
  · rw [State.joypLow, BitVec.getLsbD_and, d0, a0, Bool.not_or]
  · rw [State.joypLow, BitVec.getLsbD_and, d1, a1, Bool.not_or]
  · rw [State.joypLow, BitVec.getLsbD_and, d2, a2, Bool.not_or]
  · rw [State.joypLow, BitVec.getLsbD_and, d3, a3, Bool.not_or]
  · rw [setButton_eq, groupSelected_eq_ite]
  · rw [hostActions_of_inputs h, setButton_withInputs, hostActions_of_inputs rfl, List.foldl_cons, setButton_withInputs]

end Sys2Proof.Machine
end

section
/-! PROOFS. The state right after power-on (70_reset R400 to R409). No number is listed in memory or in the frame buffer, so
every byte reads 0x00 and every cell has shade 0; the named registers are the rows of the I/O decode. -/

namespace Sys2Proof.Machine

theorem Memory.read_empty (a : Nat) : Memory.read [] a = 0x00 := rfl

/-- A frame buffer that lists no line is blank, outside its 160 x 144 cells too (R405). -/
theorem FrameBuffer.getPixel_empty (x y : Nat) : FrameBuffer.getPixel [] x y = 0 :=
  List.getD_eq_getElem?_getD.trans (List.getElem?_getD_replicate_default_eq 0 160 x)

/-- Both groups are selected and no button is pressed, so all four lines read 1 (R406). -/
theorem joypRead_reset : State.reset.joypRead = 0xCF := joypRead_eq_append State.reset

/-- Settles O54: the registers are fields of `State.reset`, the bus reads them as O38 says, and storage is empty. -/
theorem resetState : Obligations.ResetState := by
  unfold Obligations.ResetState
  obtain ⟨hsb, hsc, -, -, -, -, hif, hlcdc, hstat, hscy, hscx, hly, hlyc, hdma, hbgp, hobp0, hobp1, hwy, hwx⟩ :=
    ioReads State.reset
  have hie : State.reset.read 0xFFFF = 0x00 := rfl
  exact ⟨rfl, rfl, rfl, rfl, rfl, rfl, rfl, hie, hif, joypRead_reset, hsb, hsc, rfl, rfl, hlcdc, hstat, hscy, hscx, hly,
    hlyc, hdma, hbgp, hobp0, hobp1, hwy, hwx, rfl, Memory.read_empty, FrameBuffer.getPixel_empty⟩

end Sys2Proof.Machine
end
